-- ==== Sys2Proof/Word.lean ====
section
/-! DEFINITION. The words of the ZG-62: bytes of the link, stamps of the stamp counter, 24-bit counts, the video
sample that the reference input delivers, and what a tick brings. -/

namespace Sys2Proof

/-- One byte on the control link (spec/10, R166). -/
abbrev Byte := BitVec 8

/-- A reading of the free-running stamp counter, in fine units (spec/00, Table 4-A). -/
abbrev Stamp := BitVec 24

/-- A 24-bit field count, trigger or mask (spec/00, 4.4.03; spec/07, R122). -/
abbrev Count := BitVec 24

/-- One video value in luminance and colour-difference form (spec/00, 4.4.01), each component a byte (spec/05, R88). -/
structure Sample where
  y  : Byte
  cb : Byte
  cr : Byte
deriving DecidableEq, Repr

/-- Black, (16, 128, 128) (spec/00, 4.4.01). -/
def Sample.black : Sample := ⟨16, 128, 128⟩

/-- What a tick that can make a field start brings from outside: the reference as digitised at the tick, and the body, kind byte
first, of a good request frame that executes after the field start's performance of a swap and before its walk (R99, R108,
R119), empty for none (log 14). -/
structure FieldTick where
  ref     : Sample
  between : List Byte
deriving DecidableEq, Repr

end Sys2Proof
end

