-- ==== Sys2Proof/Syntax.lean ====
section
/-! DEFINITION. The commands of the ZG-62: one constructor for each row of spec/opcode_table.json. The operands are what the
outside world brings with the event. A request is the event that its good frame completes; its operand is the body after
the kind byte, so that every length and every value a frame can carry is a form of the command (spec/10, R173, R174). A tick
that can make a field start brings the request within that field start, if one comes (`FieldTick`, log 14). -/

namespace Sys2Proof

/-- The commands, one for each row of the table, in the table's order. -/
inductive Instr where
  /-- POWER_ON: power is applied; the levels of the RATE0 and RATE1 straps, high or low (R41, R166). -/
  | powerOn (rate0 rate1 : Bool)
  /-- SYNC_PULSE: the trailing edge of a reference sync pulse, with its width in whole ticks (R1). -/
  | syncPulse (width : Nat)
  /-- OVERLONG_PULSE: the pulse in progress reaches 960 ticks (R1). -/
  | overlongPulse
  /-- CANDIDATE_EXPIRY: the candidate's lifetime ends (R3). -/
  | candidateExpiry
  /-- WIDE_WINDOW_CLOSE: the wide window of the standing prediction closes (R5, R9). -/
  | wideWindowClose
  /-- GENERATED_LINE_START: a carrying tick that wraps the pixel counter, with the colour index sampled and what the tick brings (R42). -/
  | generatedLineStart (index : BitVec 4) (tick : FieldTick)
  /-- MID_LINE_FIELD_START: the carrying tick of the natural parity-2 field start at mid-line (R43). -/
  | midLineFieldStart (index : BitVec 4) (tick : FieldTick)
  /-- JAM_CHECK_COMPLETE: the carrying tick at which the jam countdown completes (R60). -/
  | jamCheckComplete (index : BitVec 4) (tick : FieldTick)
  /-- TIMING_RESTART_CARRY: the first carrying tick after a timing restart (R64). -/
  | timingRestartCarry (index : BitVec 4) (tick : FieldTick)
  /-- LINE_SYNC_RELEASE: the carrying tick at which line sync is released (R46). -/
  | lineSyncRelease (index : BitVec 4) (ref : Sample)
  /-- BAD_LENGTH: a length byte of 0 or above 96 (R168). -/
  | badLength (n : Byte)
  /-- BAD_CHECK: a check byte that completes a frame with a sum other than 0 (R169). -/
  | badCheck (check : Byte)
  /-- FRAME_TIMEOUT: the byte-gap timer expires (R170). -/
  | frameTimeout
  /-- CLOSED_BYTE: a byte received while CLOSED (R171). -/
  | closedByte (b : Byte)
  /-- REPLY_END: the last byte of a reply has been sent (R171). -/
  | replyEnd
  /-- RESTART_TAKES_EFFECT: the last byte of the reply to RESTART has been sent (R176). -/
  | restartTakesEffect
  /-- UNKNOWN_REQUEST: a good frame whose kind byte names no request, with that kind byte and the body bytes after it (R173). -/
  | unknownRequest (kind : Byte) (params : List Byte)
  /-- ECHO: a good ECHO frame, with the parameter bytes of its body (R175). -/
  | echo (params : List Byte)
  /-- RESTART: a good RESTART frame, with the parameter bytes of its body (R176). -/
  | restart (params : List Byte)
  /-- SET_STANDARD: a good SET STANDARD frame, with the parameter bytes of its body (R63). -/
  | setStandard (params : List Byte)
  /-- SET_RASTER: a good SET RASTER frame, with the parameter bytes of its body (R63). -/
  | setRaster (params : List Byte)
  /-- SET_PROFILE: a good SET PROFILE frame, with the parameter bytes of its body (R37). -/
  | setProfile (params : List Byte)
  /-- SET_GAINS: a good SET GAINS frame, with the parameter bytes of its body (R36). -/
  | setGains (params : List Byte)
  /-- SET_LOCK_WINDOWS: a good SET LOCK WINDOWS frame, with the parameter bytes of its body (R57). -/
  | setLockWindows (params : List Byte)
  /-- SET_QUALIFY: a good SET QUALIFY frame, with the parameter bytes of its body (R58). -/
  | setQualify (params : List Byte)
  /-- SET_ADVANCE: a good SET ADVANCE frame, with the parameter bytes of its body (R38). -/
  | setAdvance (params : List Byte)
  /-- SET_INTERNAL: a good SET INTERNAL frame, with the parameter bytes of its body (R56). -/
  | setInternal (params : List Byte)
  /-- RELEASE_INTERNAL: a good RELEASE INTERNAL frame, with the parameter bytes of its body (R56). -/
  | releaseInternal (params : List Byte)
  /-- SET_FIELD_COUNT: a good SET FIELD COUNT frame, with the parameter bytes of its body (R45). -/
  | setFieldCount (params : List Byte)
  /-- QUERY_LOCK: a good QUERY LOCK frame, with the parameter bytes of its body (R65). -/
  | queryLock (params : List Byte)
  /-- QUERY_TIMING: a good QUERY TIMING frame, with the parameter bytes of its body (R47). -/
  | queryTiming (params : List Byte)
  /-- SET_SYNC_WINDOWS: a good SET SYNC WINDOWS frame, with the parameter bytes of its body (R19). -/
  | setSyncWindows (params : List Byte)
  /-- SET_STORE_DELAY: a good SET STORE DELAY frame, with the parameter bytes of its body (R80). -/
  | setStoreDelay (params : List Byte)
  /-- SET_VIDEO_TRIM: a good SET VIDEO TRIM frame, with the parameter bytes of its body (R81). -/
  | setVideoTrim (params : List Byte)
  /-- QUERY_STORE: a good QUERY STORE frame, with the parameter bytes of its body (R82). -/
  | queryStore (params : List Byte)
  /-- SET_COLOUR: a good SET COLOUR frame, with the parameter bytes of its body (R84). -/
  | setColour (params : List Byte)
  /-- SET_MATTE: a good SET MATTE frame, with the parameter bytes of its body (R86). -/
  | setMatte (params : List Byte)
  /-- SET_LOSS_POLICY: a good SET LOSS POLICY frame, with the parameter bytes of its body (R87). -/
  | setLossPolicy (params : List Byte)
  /-- KEYER: a good KEYER frame, with the parameter bytes of its body (R98). -/
  | keyer (params : List Byte)
  /-- WINDOW_SET: a good WINDOW SET frame, with the parameter bytes of its body (R103). -/
  | windowSet (params : List Byte)
  /-- WINDOW_CLEAR: a good WINDOW CLEAR frame, with the parameter bytes of its body (R104). -/
  | windowClear (params : List Byte)
  /-- BANK_SWAP: a good BANK SWAP frame, with the parameter bytes of its body (R106). -/
  | bankSwap (params : List Byte)
  /-- QUERY_BANK: a good QUERY BANK frame, with the parameter bytes of its body (R110). -/
  | queryBank (params : List Byte)
  /-- QUERY_MIXER: a good QUERY MIXER frame, with the parameter bytes of its body (R100). -/
  | queryMixer (params : List Byte)
  /-- FADE_LOAD: a good FADE LOAD frame, with the parameter bytes of its body (R116). -/
  | fadeLoad (params : List Byte)
  /-- FADE_HOLD: a good FADE HOLD frame, with the parameter bytes of its body (R117). -/
  | fadeHold (params : List Byte)
  /-- FADE_RESUME: a good FADE RESUME frame, with the parameter bytes of its body (R117). -/
  | fadeResume (params : List Byte)
  /-- QUERY_FADE: a good QUERY FADE frame, with the parameter bytes of its body (R121). -/
  | queryFade (params : List Byte)
  /-- CUE_NEW: a good CUE NEW frame, with the parameter bytes of its body (R127). -/
  | cueNew (params : List Byte)
  /-- CUE_SET: a good CUE SET frame, with the parameter bytes of its body (R128). -/
  | cueSet (params : List Byte)
  /-- CUE_MOVE: a good CUE MOVE frame, with the parameter bytes of its body (R129). -/
  | cueMove (params : List Byte)
  /-- CUE_PLACE: a good CUE PLACE frame, with the parameter bytes of its body (R130). -/
  | cuePlace (params : List Byte)
  /-- CUE_DISCARD: a good CUE DISCARD frame, with the parameter bytes of its body (R131). -/
  | cueDiscard (params : List Byte)
  /-- CUE_READ: a good CUE READ frame, with the parameter bytes of its body (R132). -/
  | cueRead (params : List Byte)
  /-- CUE_LIST: a good CUE LIST frame, with the parameter bytes of its body (R133). -/
  | cueList (params : List Byte)
  /-- CUE_COLLECT: a good CUE COLLECT frame, with the parameter bytes of its body (R135). -/
  | cueCollect (params : List Byte)
  /-- REPORT_PEEK: a good REPORT PEEK frame, with the parameter bytes of its body (R157). -/
  | reportPeek (params : List Byte)
  /-- REPORT_TAKE: a good REPORT TAKE frame, with the parameter bytes of its body (R158). -/
  | reportTake (params : List Byte)
  /-- REPORT_FLUSH: a good REPORT FLUSH frame, with the parameter bytes of its body (R159). -/
  | reportFlush (params : List Byte)
  /-- CONDITIONS: a good CONDITIONS frame, with the parameter bytes of its body (R162). -/
  | conditions (params : List Byte)
  /-- SET_ATTENTION: a good SET ATTENTION frame, with the parameter bytes of its body (R164). -/
  | setAttention (params : List Byte)
  /-- PULSE_LEADING_EDGE: the leading edge of a reference sync pulse, with its interpolated stamp (R1). -/
  | pulseLeadingEdge (stamp : Stamp)
  /-- PIXEL_CLOCK: a carrying tick that is none of the named ones (R42, R89). -/
  | pixelClock (index : BitVec 4) (ref : Sample)
  /-- MEASUREMENT_TICK: a tick that does not carry, with the reference as digitised at the tick (R23, R71). -/
  | measurementTick (ref : Sample)
  /-- RECEIVED_BYTE: a byte that neither ends nor completes a frame, the receiver not being CLOSED (R168). -/
  | receivedByte (b : Byte)
deriving DecidableEq, Repr

end Sys2Proof
end

