-- ==== Sys2Proof/Config.lean ====
section
/-! DEFINITION. The free values of the ZG-62 model: what the spec leaves open and the machine goes on from. Each is a
constant with no body, so that nothing can be proved about its value; the machine applies it to the draw counter of the
state, which every use advances. -/

namespace Sys2Proof

/-- The pieces of work whose reports may stand in either order when one event reaches several units (spec/09, R155;
spec/08, R150): the four title units and the lock engine at a field start, the result of a jam check made at the same
carry, and the classifier beside the lock engine at a verdict or a timing restart. -/
inductive Work where
  | bank
  | mixer
  | engine
  | walk
  | fade (g : Fin 4)
  | check
  | classifier
deriving DecidableEq, Repr

/-- FREE VALUE (log 10, 13): the turn at which a piece of work posts its reports, at the given draw. The spec gives no
order; what it does settle, that the fade generators step after the walk (R112, R150) and that a performance shown to come
before the walk posts before it (R108, R150), is added where the turns are used. -/
opaque Config.turn : Nat → Work → Nat

/-- FREE VALUE (log 11): whether the result of a jam check is posted before the field start made at the same carry. -/
opaque Config.checkResultFirst : Nat → Bool

/-- FREE VALUE (log 12): whether the sample taken at a tick is in the slot when the pixel of that tick is produced. -/
opaque Config.sampleBeforePixel : Nat → Bool

end Sys2Proof
end

