-- ==== Sys2Proof/Machine/State.lean ====
section
/-! DEFINITION. The state of the ZG-62, unit by unit in the order of spec/00, 3.01, as plain data; the state after
power-on; the two reason types of an outcome. INVENTORY.md lists every piece with its rule. -/

namespace Sys2Proof.Machine

/-! ## Enumerations shared by several units -/

/-- The selected television standard (spec/00, Table 4-B). -/
inductive Standard where | s625 | s525
deriving DecidableEq, Repr

/-- The raster mode (spec/03, R43). -/
inductive RasterMode where | interlaced | nonInterlaced
deriving DecidableEq, Repr

/-- The parity of a field, 1 or 2 (spec/00, 4.3.02). -/
inductive Parity where | one | two
deriving DecidableEq, Repr

/-- The key of a line: its field's parity and its number in the field (spec/00, 4.3.02). -/
structure Key where
  parity : Parity
  line   : Nat
deriving DecidableEq, Repr

/-- The five lock states (spec/03, 3.2.01). -/
inductive LockState where | free | acquire | locked | holdover | internal
deriving DecidableEq, Repr

/-! ## Slicer and sync classifier (spec/01) -/

/-- The sync pulse the slicer is in: none, one whose leading edge has this stamp, or one that has been handled as OVERLONG
and whose trailing edge will be ignored (R1). -/
inductive Pulse where
  | idle
  | inProgress (stamp : Stamp)
  | handled
deriving DecidableEq, Repr

inductive Tracking where | search | track
deriving DecidableEq, Repr

/-- The last grid line start (Table 1-B). -/
structure Anchor where
  stamp : Stamp
  real  : Bool
  step  : Bool
deriving DecidableEq, Repr

/-- The standing prediction with the window widths captured with it, in ticks (R5). -/
structure Prediction where
  stamp : Stamp
  wn    : Nat
  ww    : Nat
deriving DecidableEq, Repr

/-- The numbering state (R13). -/
inductive Numbering where
  | unnumbered
  | awaiting (parity : Parity)
  | numbered (key : Key)
deriving DecidableEq, Repr

/-- A field verdict (R16). -/
structure Verdict where
  parity : Parity
  lines  : Nat
  good   : Bool
deriving DecidableEq, Repr

/-- The sync classifier (Table 1-B), and whether the closing of the wide window has come and is held back by a pulse (R9). -/
structure Classifier where
  tracking       : Tracking
  candidate      : Option Stamp
  lavg           : Nat
  anchor         : Option Anchor
  prediction     : Option Prediction
  midLine        : Bool
  syncRun        : Bool
  numbering      : Numbering
  synthCount     : Nat
  badCount       : Nat
  previous       : Option Parity
  startSynthetic : Bool
  verdict        : Option Verdict
  flywheel       : Bool
  wrongRun       : Nat
  refAbsent      : Bool
  mismatch       : Bool
  wn             : Nat
  ww             : Nat
  nloss          : Nat
  b              : Nat
  closeHeld      : Bool
deriving DecidableEq, Repr

/-- Table 1-B, last column. -/
def Classifier.reset : Classifier where
  tracking := .search
  candidate := none
  lavg := 24576
  anchor := none
  prediction := none
  midLine := false
  syncRun := false
  numbering := .unnumbered
  synthCount := 0
  badCount := 0
  previous := none
  startSynthetic := false
  verdict := none
  flywheel := false
  wrongRun := 0
  refAbsent := true
  mismatch := false
  wn := 48
  ww := 384
  nloss := 12
  b := 4
  closeHeld := false

/-! ## Lock engine (spec/02, Table 2-H; spec/03, Table 3-B) -/

inductive Profile where | broadcast | tape
deriving DecidableEq, Repr

/-- A pair of shift counts (R32). -/
structure GainPair where
  sp : Nat
  si : Nat
deriving DecidableEq, Repr

/-- The four gain pairs (Table 2-E). -/
structure Gains where
  broadcastAcquire : GainPair
  broadcastLocked  : GainPair
  tapeAcquire      : GainPair
  tapeLocked       : GainPair
deriving DecidableEq, Repr

/-- The lock engine. `history` is the generated-stamp history, newest first (R25). -/
structure Engine where
  k0        : Nat
  kspan     : Nat
  k         : Nat
  i         : Int
  s         : Int
  e         : Int
  a         : Int
  profile   : Profile
  gains     : Gains
  history   : List Stamp
  atLimit   : Bool
  lock      : LockState
  qual      : Nat
  lockRun   : Nat
  dropRun   : Nat
  missRun   : Nat
  holdover  : Nat
  vmatch    : Bool
  unlocked  : Bool
  q         : Nat
  hmax      : Nat
  wLock     : Nat
  wDrop     : Nat
  nLock     : Nat
  nUnlock   : Nat
deriving DecidableEq, Repr

/-- Table 2-H, Table 2-E and Table 3-B. -/
def Engine.reset : Engine where
  k0 := 2147483648
  kspan := 33554432
  k := 2147483648
  i := 0
  s := 0
  e := 0
  a := 0
  profile := .broadcast
  gains := ⟨⟨2, 6⟩, ⟨4, 10⟩, ⟨3, 8⟩, ⟨7, 16⟩⟩
  history := []
  atLimit := false
  lock := .free
  qual := 0
  lockRun := 0
  dropRun := 0
  missRun := 0
  holdover := 0
  vmatch := false
  unlocked := true
  q := 10
  hmax := 500
  wLock := 48
  wDrop := 512
  nLock := 128
  nUnlock := 24

/-! ## Timing generator and oscillator (spec/03, Table 3-A; spec/02, R23) -/

/-- The cause a generated field-start event carries (R44). -/
inductive Cause where | natural | jam | restart
deriving DecidableEq, Repr

/-- A pending jam countdown: its parity, the due count it was armed with, and the line starts still to come (R59). -/
structure Jam where
  parity : Parity
  due    : Nat
  toCome : Nat
deriving DecidableEq, Repr

/-- The timing generator. `lineSync` and `fieldSync` hold what is still to come before the release; `newField` says that a
field start has come since the last line start (R42); `restartPending` that the restart carry is awaited (R64). -/
structure Timing where
  acc            : BitVec 32
  standard       : Standard
  lpix           : Nat
  mode           : RasterMode
  latency        : Nat
  pixel          : Nat
  key            : Key
  parity         : Parity
  count          : Count
  load           : Option Count
  jam            : Option Jam
  frameRestart   : Bool
  lineSync       : Option Nat
  fieldSync      : Option Nat
  newField       : Bool
  restartPending : Bool
deriving DecidableEq, Repr

/-- Table 3-A, last column, and R23. -/
def Timing.reset : Timing where
  acc := 0
  standard := .s625
  lpix := 768
  mode := .interlaced
  latency := 0
  pixel := 0
  key := ⟨.one, 1⟩
  parity := .one
  count := 0
  load := none
  jam := none
  frameRestart := true
  lineSync := none
  fieldSync := none
  newField := false
  restartPending := false

/-! ## Line store (spec/04, Tables 4-A and 4-B) -/

inductive SlotRole where | free | filled | shown
deriving DecidableEq, Repr

/-- The samples of a slot, by sample number; a number not listed is black (log 19). -/
abbrev Samples := List (Nat × Sample)

structure Slot where
  role      : SlotRole
  key       : Key
  seq       : BitVec 16
  synthetic : Bool
  step      : Bool
  samples   : Samples
deriving DecidableEq, Repr

/-- A FREE slot: its other fields have no meaning (R66), and the model keeps them at one value (log 18). -/
def Slot.cleared : Slot := ⟨.free, ⟨.one, 0⟩, 0, false, false, []⟩

/-- The slot whose samples are being taken, with the stamp of its line (R71). -/
structure Sampling where
  slot  : Fin 8
  stamp : Stamp
deriving DecidableEq, Repr

inductive LineOne where | hit | miss
deriving DecidableEq, Repr

/-- The line store. `active` is the activity, ACTIVE or IDLE; `hLine` is the video trim of the line in progress (R76). -/
structure Store where
  active   : Bool
  slots    : Vector Slot 8
  seq      : BitVec 16
  shown    : Option (Fin 8)
  sampling : Option Sampling
  lineOne  : Option LineOne
  d        : Nat
  h        : Int
  hLine    : Int
deriving DecidableEq, Repr

/-- Table 4-A, last column. -/
def Store.reset : Store where
  active := false
  slots := Vector.replicate 8 Slot.cleared
  seq := 0
  shown := none
  sampling := none
  lineOne := none
  d := 3
  h := 0
  hLine := 0

/-! ## Window banks (spec/06, Tables 6-A and 6-B) -/

inductive MixMode where | replace | add
deriving DecidableEq, Repr

/-- The level source of a window (R93, R102). -/
inductive LevelSource where
  | fixed (level : Nat)
  | gen (g : Fin 4)
deriving DecidableEq, Repr

structure Window where
  enabled : Bool
  top     : Nat
  bottom  : Nat
  left    : Nat
  right   : Nat
  mode    : MixMode
  level   : LevelSource
deriving DecidableEq, Repr

/-- The cleared record (Table 6-B). -/
def Window.cleared : Window := ⟨false, 1, 313, 0, 2047, .replace, .fixed 256⟩

inductive BankName where | a | b
deriving DecidableEq, Repr

/-- The banks. `swap` is none when no swap is pending, and else the pending copy flag. -/
structure Banks where
  a    : Vector Window 8
  b    : Vector Window 8
  live : BankName
  swap : Option Bool
deriving DecidableEq, Repr

/-- Table 6-A, last column. -/
def Banks.reset : Banks := ⟨Vector.replicate 8 Window.cleared, Vector.replicate 8 Window.cleared, .a, none⟩

/-! ## Fade generators (spec/06, Table 6-D) -/

inductive FadeKind where | stop | wrap | bounce
deriving DecidableEq, Repr

/-- A fade generator; `run` is the run state, RUN or IDLE, and `mark` the walk mark. -/
structure Fade where
  run   : Bool
  kind  : FadeKind
  level : Nat
  step  : Int
  lo    : Nat
  hi    : Nat
  mark  : Bool
deriving DecidableEq, Repr

/-- Table 6-D, last column. -/
def Fade.reset : Fade := ⟨false, .stop, 0, 0, 0, 65536, false⟩

/-! ## Mixer (spec/05, Table 5-A) -/

inductive ColourClass where | clear | solid | half
deriving DecidableEq, Repr

structure ColourEntry where
  colour : Sample
  cls    : ColourClass
deriving DecidableEq, Repr

inductive LossPolicy where | keep | full | hide
deriving DecidableEq, Repr

inductive Source where | matte | store
deriving DecidableEq, Repr

/-- The values that serve one generated line (R85). -/
structure LineContext where
  table  : Vector ColourEntry 16
  matte  : Sample
  policy : LossPolicy
  source : Source
deriving DecidableEq, Repr

/-- A pixel awaiting its colour index, with the values of its moment (R90): `video` is the store output handed over when it
was produced (R75), and `before` says that its line is the line before the one in progress (R89). -/
structure Pixel where
  key     : Key
  x       : Nat
  count   : Count
  keyer   : Bool
  windows : Vector Window 8
  levels  : Vector Nat 4
  video   : Sample
  before  : Bool
deriving DecidableEq, Repr

inductive ClipKind where | video | key
deriving DecidableEq, Repr

/-- The last-clip record when its kind is not NONE (R97). -/
structure ClipRecord where
  kind  : ClipKind
  key   : Key
  count : Count
deriving DecidableEq, Repr

/-- What the output stage delivers: the formed pixel and the syncs delayed with it (R91). -/
structure Output where
  pixel     : Sample
  lineSync  : Bool
  fieldSync : Bool
deriving DecidableEq, Repr

/-- The mixer. `clip` none is the last-clip kind NONE; `syncDelay` is the delay line of the output syncs, oldest first. -/
structure Mixer where
  table     : Vector ColourEntry 16
  matte     : Sample
  policy    : LossPolicy
  edits     : Bool
  ctx       : LineContext
  prevCtx   : LineContext
  keyer     : Bool
  keyerNext : Option Bool
  recorded  : LockState
  pipeline  : List Pixel
  clip      : Option ClipRecord
  syncDelay : List (Bool × Bool)
  output    : Output
deriving DecidableEq, Repr

/-- The colour table at power-on (Table 5-A). -/
def ColourEntry.resetTable : Vector ColourEntry 16 := Vector.replicate 16 ⟨Sample.black, .clear⟩

/-- The line context at power-on (R83). -/
def LineContext.reset : LineContext := ⟨ColourEntry.resetTable, Sample.black, .hide, .matte⟩

/-- Table 5-A, last column; the output stage is DESIGN CHOICE (log 4). -/
def Mixer.reset : Mixer where
  table := ColourEntry.resetTable
  matte := Sample.black
  policy := .hide
  edits := false
  ctx := LineContext.reset
  prevCtx := LineContext.reset
  keyer := false
  keyerNext := none
  recorded := .free
  pipeline := []
  clip := none
  syncDelay := []
  output := ⟨Sample.black, false, false⟩

/-! ## Cue unit (spec/07) -/

/-- The parameters of a load of a fade generator (spec/06, R116; spec/07, Table 7-B). -/
structure FadeParams where
  level : Nat
  step  : Int
  lo    : Nat
  hi    : Nat
  kind  : FadeKind
deriving DecidableEq, Repr

/-- The action of a cue with the parameters of its kind and no others (R123). -/
inductive CueAction where
  | swap (copy : Bool)
  | fade (g : Fin 4) (p : FadeParams)
  | fadeHold (g : Fin 4)
  | keyer (on : Bool)
  | arm (target : Fin 64)
  | mark
deriving DecidableEq, Repr

/-- The content of a cue, as the host writes it; `route` none is the route NONE. -/
structure CueContent where
  trigger : Count
  mask    : Count
  repeats : Bool
  route   : Option (Fin 4)
  tag     : BitVec 16
  action  : CueAction
deriving DecidableEq, Repr

structure Cue where
  content : CueContent
  pending : Bool
deriving DecidableEq, Repr

/-- The cleared content (R137). -/
def Cue.cleared : Cue := ⟨⟨0, 0, false, some 2, 0, .mark⟩, false⟩

inductive CueList where | free | armed | held | done
deriving DecidableEq, Repr

/-- The pool: 64 records and the four lists, head first (R122, R124). Links, heads, tails and sizes are read off the lists
(log 17). -/
structure CuePool where
  records : Vector Cue 64
  free    : List (Fin 64)
  armed   : List (Fin 64)
  held    : List (Fin 64)
  done    : List (Fin 64)
deriving DecidableEq, Repr

/-- R137. -/
def CuePool.reset : CuePool := ⟨Vector.replicate 64 Cue.cleared, List.finRange 64, [], [], []⟩

/-! ## Report unit (spec/09, Table 9-A) -/

/-- The eighteen report kinds (Table 9-B). -/
inductive ReportKind where
  | stateChange | refLost | refFound | jam | atLimitEnter | atLimitLeave | standardMismatch | standardOk
  | drop | repeated | cueFired | cueSkipped | fadeEnd | bankLive | keyerChanged | badFrame | frameTimeout | overlap
deriving DecidableEq, Repr

/-- A report record (R154). -/
structure Report where
  kind  : ReportKind
  count : Count
  argA  : Byte
  argB  : BitVec 16
deriving DecidableEq, Repr

/-- The report unit. Condition n is bit n of `latched` and `condEnables`, queue n bit n of `queueEnables` (spec/10, 10.6.02). -/
structure ReportUnit where
  queues       : Vector (List Report) 4
  latched      : BitVec 11
  condEnables  : BitVec 11
  queueEnables : BitVec 4
  attn         : Bool
deriving DecidableEq, Repr

/-- Table 9-A, last column: REF_ABSENT (0) and UNLOCKED (2) latched. -/
def ReportUnit.reset : ReportUnit := ⟨Vector.replicate 4 [], 5, 0, 0, false⟩

/-! ## Link controller (spec/10, Table 10-A) -/

inductive StrapRate where | b19200 | b38400 | b57600 | b115200
deriving DecidableEq, Repr

inductive RxState where | hunting | awaitLength | inBody | awaitCheck | closed
deriving DecidableEq, Repr

/-- The partial frame: the length byte and the body bytes received so far. -/
structure Frame where
  length : Byte
  body   : List Byte
deriving DecidableEq, Repr

/-- The link controller. `timer` is the expiry time of the running byte-gap timer; `reply` the bytes of the reply frame being
sent, empty when the transmit line is idle; `restartAwaits` says that the reply being sent is RESTART's OK (R176). -/
structure Link where
  rate          : StrapRate
  rx            : RxState
  frame         : Option Frame
  timer         : Option Stamp
  closedKind    : Byte
  closedCount   : Nat
  reply         : List Byte
  restartAwaits : Bool
deriving DecidableEq, Repr

/-- Table 10-A, the power-on column; the rate that of both straps low is DESIGN CHOICE (log 3). -/
def Link.reset : Link := ⟨.b19200, .hunting, none, none, 0, 0, [], false⟩

/-! ## The whole block -/

/-- The state of the ZG-62. `draw` is the model's own counter for the free values; `pending` the commands that wait, the
oldest first. -/
structure State where
  stamp      : Stamp
  pulse      : Pulse
  classifier : Classifier
  engine     : Engine
  timing     : Timing
  store      : Store
  mixer      : Mixer
  banks      : Banks
  fades      : Vector Fade 4
  cues       : CuePool
  reports    : ReportUnit
  link       : Link
  draw       : Nat
  pending    : List Instr
deriving DecidableEq, Repr

/-- The block right after power-on. -/
def State.reset : State where
  stamp := 0
  pulse := .idle
  classifier := Classifier.reset
  engine := Engine.reset
  timing := Timing.reset
  store := Store.reset
  mixer := Mixer.reset
  banks := Banks.reset
  fades := Vector.replicate 4 Fade.reset
  cues := CuePool.reset
  reports := ReportUnit.reset
  link := Link.reset
  draw := 0
  pending := []

/-! ## Reasons to stop -/

/-- The faults of the block: none. The spec gives the part no event that stops it (bad frames, refused requests and lost
reports are effects on the state), so no meaning raises a fault; safe. -/
inductive Fault where
deriving DecidableEq, Repr

/-- The refusals. -/
inductive Refusal where
  /-- Raised by an arm of `exec` whose command has no meaning yet, and by nothing else; safe: the model stops. -/
  | notModelled (mnemonic : String)
deriving DecidableEq, Repr

/-! ## Updates of one unit -/

def State.setStamp (s : State) (x : Stamp) : State := { s with stamp := x }
def State.setPulse (s : State) (x : Pulse) : State := { s with pulse := x }
def State.setClassifier (s : State) (x : Classifier) : State := { s with classifier := x }
def State.setEngine (s : State) (x : Engine) : State := { s with engine := x }
def State.setTiming (s : State) (x : Timing) : State := { s with timing := x }
def State.setStore (s : State) (x : Store) : State := { s with store := x }
def State.setMixer (s : State) (x : Mixer) : State := { s with mixer := x }
def State.setBanks (s : State) (x : Banks) : State := { s with banks := x }
def State.setFades (s : State) (x : Vector Fade 4) : State := { s with fades := x }
def State.setCues (s : State) (x : CuePool) : State := { s with cues := x }
def State.setReports (s : State) (x : ReportUnit) : State := { s with reports := x }
def State.setLink (s : State) (x : Link) : State := { s with link := x }
def State.setDraw (s : State) (x : Nat) : State := { s with draw := x }
def State.setPending (s : State) (x : List Instr) : State := { s with pending := x }

end Sys2Proof.Machine
end

