-- ==== Sys2Proof/Machine/Operands.lean ====
section
/-! DEFINITION. The arithmetic phrases of spec/00, 4.5, the figures of the standards, and the operands of requests and
replies: bytes to numbers and numbers to bytes (spec/10, R174, R177), and the codes of Table 10-H. -/

namespace Sys2Proof.Machine

/-! ## Arithmetic phrases (spec/00, 4.5.01) -/

/-- Clamp x to [a, b], for natural numbers. -/
def clampNat (a b x : Nat) : Nat := if x < a then a else if b < x then b else x

/-- Clamp x to [a, b]. -/
def clampInt (a b x : Int) : Int := if x < a then a else if b < x then b else x

/-- Rounded shift by s: for s = 0 the value, else the value plus 2^(s-1), floored after division by 2^s. -/
def roundedShift (v : Int) (s : Nat) : Int := if s = 0 then v else (v + 2 ^ (s - 1)) / 2 ^ s

/-- A sixteenth of d, rounded half away from zero (R11). -/
def sixteenthHalfAway (d : Int) : Int := if 0 ≤ d then (d + 8) / 16 else -((8 - d) / 16)

/-- The difference of two stamps, the first minus the second modulo 2^24, read as a signed number (R5). -/
def stampDiff (a b : Stamp) : Int := (a - b).toInt

/-- A stamp moved by an amount, modulo 2^24. -/
def stampAdd (a : Stamp) (d : Int) : Stamp := a + BitVec.ofInt 24 d

/-- Count up to a limit at which a count holds. -/
def countTo (limit n : Nat) : Nat := if n < limit then n + 1 else limit

/-- An index below n from a number, or none when the number names nothing. -/
def indexBelow (n v : Nat) : Option (Fin n) := if h : v < n then some ⟨v, h⟩ else none

/-! ## The standards (spec/00, Table 4-B; spec/02, R22) -/

/-- Lnom, the nominal line period in fu. -/
def lnom : Standard → Nat
  | .s625 => 24576
  | .s525 => 24405

/-- The line starts of a field of the given parity. -/
def fieldLength : Standard → Parity → Nat
  | .s625, .one => 313
  | .s625, .two => 312
  | .s525, .one => 263
  | .s525, .two => 262

/-- The lines of a frame. -/
def frameLength (std : Standard) : Nat := fieldLength std .one + fieldLength std .two

/-- Sline, the store samples of a nominal line. -/
def sline : Standard → Nat
  | .s625 => 768
  | .s525 => 762

/-- K0: 2^32 × 16 × Lpix / Lnom, rounded half up (R22). -/
def nominalIncrement (std : Standard) (lpix : Nat) : Nat := (2 * (2 ^ 36 * lpix) + lnom std) / (2 * lnom std)

/-- The other parity. -/
def Parity.other : Parity → Parity
  | .one => .two
  | .two => .one

/-- The α of a fade level: floor((L + 128)/256) (spec/00, 4.4.02). -/
def alphaOf (level : Nat) : Nat := (level + 128) / 256

/-! ## Bytes and numbers (R174) -/

/-- The number that bytes spell, most significant byte first. -/
def beNat (bs : List Byte) : Nat := bs.foldl (fun acc b => 256 * acc + b.toNat) 0

/-- A number in n bytes, most significant byte first. -/
def bytesOf : Nat → Nat → List Byte
  | 0, _ => []
  | n + 1, v => bytesOf n (v / 256) ++ [BitVec.ofNat 8 v]

/-- A signed number in n bytes of two's complement. -/
def bytesOfInt (n : Nat) (v : Int) : List Byte := bytesOf n (BitVec.ofInt (8 * n) v).toNat

/-- An unsigned number of n bytes read as two's complement. -/
def signed (n v : Nat) : Int := (BitVec.ofNat (8 * n) v).toInt

/-- The fields of a parameter list, given their sizes in bytes; none when the length does not fit (R173). -/
def fields : List Nat → List Byte → Option (List Nat)
  | [], [] => some []
  | [], _ :: _ => none
  | n :: ns, ps => if ps.length < n then none else (fields ns (ps.drop n)).map (fun r => beNat (ps.take n) :: r)

/-! ## Codes (Table 10-H and the chapters that own the items) -/

def boolCode (b : Bool) : Nat := if b then 1 else 0

/-- A flag's byte: 1 is yes and 0 is no, and any other value names nothing (R174). -/
def flagOf : Nat → Option Bool
  | 0 => some false
  | 1 => some true
  | _ => none

def Standard.code : Standard → Nat
  | .s625 => 0
  | .s525 => 1

def standardOf : Nat → Option Standard
  | 0 => some .s625
  | 1 => some .s525
  | _ => none

def RasterMode.code : RasterMode → Nat
  | .interlaced => 0
  | .nonInterlaced => 1

def rasterModeOf : Nat → Option RasterMode
  | 0 => some .interlaced
  | 1 => some .nonInterlaced
  | _ => none

def Profile.code : Profile → Nat
  | .broadcast => 0
  | .tape => 1

def profileOf : Nat → Option Profile
  | 0 => some .broadcast
  | 1 => some .tape
  | _ => none

def Parity.code : Parity → Nat
  | .one => 1
  | .two => 2

def LockState.code : LockState → Nat
  | .free => 0
  | .acquire => 1
  | .locked => 2
  | .holdover => 3
  | .internal => 4

def Tracking.code : Tracking → Nat
  | .search => 0
  | .track => 1

/-- The key code of a key (p, n): 1,024 × p + n (R70). -/
def Key.code (k : Key) : Nat := 1024 * k.parity.code + k.line

def SlotRole.code : SlotRole → Nat
  | .free => 0
  | .filled => 1
  | .shown => 2

def lineOneCode : Option LineOne → Nat
  | none => 0
  | some .hit => 1
  | some .miss => 2

def ColourClass.code : ColourClass → Nat
  | .clear => 0
  | .solid => 1
  | .half => 2

def colourClassOf : Nat → Option ColourClass
  | 0 => some .clear
  | 1 => some .solid
  | 2 => some .half
  | _ => none

def LossPolicy.code : LossPolicy → Nat
  | .keep => 0
  | .full => 1
  | .hide => 2

def lossPolicyOf : Nat → Option LossPolicy
  | 0 => some .keep
  | 1 => some .full
  | 2 => some .hide
  | _ => none

def Source.code : Source → Nat
  | .matte => 0
  | .store => 1

def BankName.code : BankName → Nat
  | .a => 0
  | .b => 1

def bankOf : Nat → Option BankName
  | 0 => some .a
  | 1 => some .b
  | _ => none

def BankName.other : BankName → BankName
  | .a => .b
  | .b => .a

def MixMode.code : MixMode → Nat
  | .replace => 0
  | .add => 1

def mixModeOf : Nat → Option MixMode
  | 0 => some .replace
  | 1 => some .add
  | _ => none

def FadeKind.code : FadeKind → Nat
  | .stop => 0
  | .wrap => 1
  | .bounce => 2

def fadeKindOf : Nat → Option FadeKind
  | 0 => some .stop
  | 1 => some .wrap
  | 2 => some .bounce
  | _ => none

def CueList.code : CueList → Nat
  | .free => 0
  | .armed => 1
  | .held => 2
  | .done => 3

def cueListOf : Nat → Option CueList
  | 0 => some .free
  | 1 => some .armed
  | 2 => some .held
  | 3 => some .done
  | _ => none

/-- A route byte: queue 0 to 3, or 4 for NONE (spec/07, 7.1.04). -/
def routeOf (v : Nat) : Option (Option (Fin 4)) := if v = 4 then some none else (indexBelow 4 v).map some

def routeCode : Option (Fin 4) → Nat
  | some q => q.val
  | none => 4

/-- A one-byte index field, 255 for none (Table 10-H). -/
def indexCode : Option Nat → Nat
  | some i => i
  | none => 255

def ReportKind.code : ReportKind → Nat
  | .stateChange => 0x01
  | .refLost => 0x02
  | .refFound => 0x03
  | .jam => 0x04
  | .atLimitEnter => 0x05
  | .atLimitLeave => 0x06
  | .standardMismatch => 0x07
  | .standardOk => 0x08
  | .drop => 0x10
  | .repeated => 0x11
  | .cueFired => 0x20
  | .cueSkipped => 0x21
  | .fadeEnd => 0x22
  | .bankLive => 0x23
  | .keyerChanged => 0x24
  | .badFrame => 0x30
  | .frameTimeout => 0x31
  | .overlap => 0x32

/-- The eight statuses (Table 10-D). -/
inductive Status where | ok | badFrame | unknown | badParam | wrongState | noSpace | busy | empty
deriving DecidableEq, Repr

def Status.code : Status → Byte
  | .ok => 0
  | .badFrame => 1
  | .unknown => 2
  | .badParam => 3
  | .wrongState => 4
  | .noSpace => 5
  | .busy => 6
  | .empty => 7

/-- The kind bytes of Tables 10-E and 10-F. -/
def requestKinds : List Byte :=
  [0x01, 0x02, 0x10, 0x11, 0x12, 0x13, 0x14, 0x15, 0x16, 0x17, 0x18, 0x19, 0x1A, 0x1B, 0x1C, 0x20, 0x21, 0x22] ++
  [0x30, 0x31, 0x32, 0x33, 0x34, 0x35, 0x36, 0x37, 0x38, 0x40, 0x41, 0x42, 0x43] ++
  [0x50, 0x51, 0x52, 0x53, 0x54, 0x55, 0x56, 0x57, 0x60, 0x61, 0x62, 0x63, 0x64]

/-- The kind bytes of KEYER, WINDOW SET, WINDOW CLEAR, BANK SWAP, QUERY BANK, QUERY MIXER and the four requests of the fade
generators: the requests that may come between a field start's performance and its walk (log 14). -/
def betweenKinds : List Byte := [0x33, 0x34, 0x35, 0x36, 0x37, 0x38, 0x40, 0x41, 0x42, 0x43]

/-! ## Frames (R167) -/

/-- The check byte: it makes the length, the body and itself sum to 0 modulo 256. -/
def checkByte (length : Byte) (body : List Byte) : Byte := 0 - body.foldl (· + ·) length

/-- The reply frame of a body: start byte, length, body, check byte. -/
def replyFrame (body : List Byte) : List Byte :=
  let n := BitVec.ofNat 8 body.length
  0xD5 :: n :: body ++ [checkByte n body]

/-! ## Records in parameters and replies (Table 10-G) -/

/-- A window record of 13 bytes. -/
def Window.bytes (w : Window) : List Byte :=
  bytesOf 1 (boolCode w.enabled) ++ bytesOf 2 w.top ++ bytesOf 2 w.bottom ++ bytesOf 2 w.left ++ bytesOf 2 w.right ++
  bytesOf 1 w.mode.code ++
  match w.level with
  | .fixed l => bytesOf 1 0 ++ bytesOf 2 l
  | .gen g => bytesOf 1 1 ++ bytesOf 2 g.val

/-- The level source that a kind byte and a level value name: a fixed level is clamped, a generator above 3 or another kind
names nothing (R103, R177). -/
def levelSourceOf (kind value : Nat) : Option LevelSource :=
  match kind with
  | 0 => some (.fixed (clampNat 0 256 value))
  | 1 => (indexBelow 4 value).map .gen
  | _ => none

/-- A fade record of 15 bytes. -/
def Fade.bytes (f : Fade) : List Byte :=
  bytesOf 1 (boolCode f.run) ++ bytesOf 1 f.kind.code ++ bytesOf 3 f.level ++ bytesOf 2 (alphaOf f.level) ++
  bytesOfInt 2 f.step ++ bytesOf 3 f.lo ++ bytesOf 3 f.hi

/-- The checks and clamps of a load (R116, steps 1 to 5), shared by FADE LOAD and the FADE content of a cue (R126). -/
def loadOf (gen level step lo hi kind : Nat) : Option (Fin 4 × FadeParams) :=
  match indexBelow 4 gen, fadeKindOf kind with
  | some g, some k =>
    let lo' := clampNat 0 65536 lo
    let hi' := clampNat 0 65536 hi
    let st := signed 2 step
    if hi' < lo' then none
    else if k = .wrap ∧ hi' - lo' + 1 ≤ st.natAbs then none
    else if k = .bounce ∧ (hi' - lo' < st.natAbs ∨ st = -32768) then none
    else some (g, ⟨clampNat lo' hi' (clampNat 0 65536 level), st, lo', hi', k⟩)
  | _, _ => none

/-- A cue's action from its kind and parameter fields (R126, steps 1 to 3); fields that the kind does not use are ignored. -/
def cueActionOf (kind first level step lo hi fadeKind : Nat) : Option CueAction :=
  match kind with
  | 0 => (flagOf first).map .swap
  | 1 => (loadOf first level step lo hi fadeKind).map fun gp => .fade gp.1 gp.2
  | 2 => (indexBelow 4 first).map .fadeHold
  | 3 => (flagOf first).map .keyer
  | 4 => (indexBelow 64 first).map .arm
  | 5 => some .mark
  | _ => none

/-- The sizes of the fields of a cue content (Table 10-G). -/
def cueContentSizes : List Nat := [3, 3, 1, 1, 2, 1, 1, 3, 2, 3, 3, 1]

/-- A cue's content from the fields of a cue content (R126); none is the refusal BAD_PARAM. -/
def cueContentOf : List Nat → Option CueContent
  | [t, m, rep, route, tag, kind, first, level, step, lo, hi, fadeKind] =>
    match flagOf rep, routeOf route, cueActionOf kind first level step lo hi fadeKind with
    | some r, some q, some a => some ⟨BitVec.ofNat 24 t, BitVec.ofNat 24 m, r, q, BitVec.ofNat 16 tag, a⟩
    | _, _, _ => none
  | _ => none

/-- The action kind, first parameter and fade fields of an action, 14 bytes; unused fields are 0 (R177). -/
def CueAction.bytes : CueAction → List Byte
  | .swap c => bytesOf 1 0 ++ bytesOf 1 (boolCode c) ++ bytesOf 12 0
  | .fade g p => bytesOf 1 1 ++ bytesOf 1 g.val ++ bytesOf 3 p.level ++ bytesOfInt 2 p.step ++ bytesOf 3 p.lo ++
      bytesOf 3 p.hi ++ bytesOf 1 p.kind.code
  | .fadeHold g => bytesOf 1 2 ++ bytesOf 1 g.val ++ bytesOf 12 0
  | .keyer v => bytesOf 1 3 ++ bytesOf 1 (boolCode v) ++ bytesOf 12 0
  | .arm j => bytesOf 1 4 ++ bytesOf 1 j.val ++ bytesOf 12 0
  | .mark => bytesOf 1 5 ++ bytesOf 1 0 ++ bytesOf 12 0

/-- A cue content of 24 bytes. -/
def CueContent.bytes (c : CueContent) : List Byte :=
  bytesOf 3 c.trigger.toNat ++ bytesOf 3 c.mask.toNat ++ bytesOf 1 (boolCode c.repeats) ++ bytesOf 1 (routeCode c.route) ++
  bytesOf 2 c.tag.toNat ++ c.action.bytes

/-- A report record of 7 bytes. -/
def Report.bytes (r : Report) : List Byte :=
  bytesOf 1 r.kind.code ++ bytesOf 3 r.count.toNat ++ [r.argA] ++ bytesOf 2 r.argB.toNat

/-- The three components of a colour. -/
def sampleBytes (c : Sample) : List Byte := [c.y, c.cb, c.cr]

/-- A colour within the legal ranges: Y clamped to 16 to 235, Cb and Cr to 16 to 240 (R84, R86). -/
def legalColour (y cb cr : Nat) : Sample :=
  ⟨BitVec.ofNat 8 (clampNat 16 235 y), BitVec.ofNat 8 (clampNat 16 240 cb), BitVec.ofNat 8 (clampNat 16 240 cr)⟩

end Sys2Proof.Machine
end

