-- ==== Sys2Proof/Machine/Flags.lean ====
section
/-! DEFINITION. The eleven conditions, the four causes and the attention line (spec/09, sections 9.3 and 9.4). -/

namespace Sys2Proof.Machine

/-- The number of a condition (Table 9-C). -/
def condRefAbsent : Nat := 0
def condMismatch : Nat := 1
def condUnlocked : Nat := 2
def condAtLimit : Nat := 3
def condClip : Nat := 4
def condSlip : Nat := 5
def condLinkFault : Nat := 6

/-- OVERRUNq, condition 7 + q. -/
def condOverrun (q : Fin 4) : Nat := 7 + q.val

/-- The set that holds one condition. -/
def condBit (n : Nat) : BitVec 11 := 1#11 <<< n

/-- The four causes as the set of the persistent conditions whose causes hold (R160). -/
def State.causes (s : State) : BitVec 11 :=
  (if s.classifier.refAbsent then condBit condRefAbsent else 0) |||
  (if s.classifier.mismatch then condBit condMismatch else 0) |||
  (if s.engine.unlocked then condBit condUnlocked else 0) |||
  (if s.engine.atLimit then condBit condAtLimit else 0)

/-- A condition latched; one already latched stays so (R161). -/
def ReportUnit.latch (r : ReportUnit) (n : Nat) : ReportUnit := { r with latched := r.latched ||| condBit n }

/-- A condition latched by an event. -/
def State.latch (s : State) (n : Nat) : State := s.setReports (s.reports.latch n)

/-- Whether an enabled queue is non-empty. -/
def ReportUnit.queueCalls (r : ReportUnit) (q : Fin 4) : Bool := r.queueEnables.getLsb q && !(r.queues[q]).isEmpty

/-- ATTN is asserted exactly when some enabled condition is latched or some enabled queue is non-empty (R165). -/
def ReportUnit.calls (r : ReportUnit) : Bool :=
  (r.latched &&& r.condEnables) != 0 || r.queueCalls 0 || r.queueCalls 1 || r.queueCalls 2 || r.queueCalls 3

/-- The report unit's judgement as an event leaves the state: a condition whose cause holds is latched (R160), and ATTN is
set (R165). No event of the part makes a cause true and false again (log 26). -/
def State.settle (s : State) : State :=
  let r := { s.reports with latched := s.reports.latched ||| s.causes }
  s.setReports { r with attn := r.calls }

end Sys2Proof.Machine
end

