-- ==== Sys2Proof/Machine/Ops.lean ====
section
/-! DEFINITION. The operations several units share: posting reports, one at a time and from several units at once; the
samples of a slot; the lists of the cue pool. -/

namespace Sys2Proof.Machine

/-! ## Posting reports (spec/09, R154, R155) -/

/-- A report on its way to a queue; the field count is added when it is posted. -/
structure Post where
  queue : Fin 4
  kind  : ReportKind
  argA  : Byte
  argB  : BitVec 16
deriving DecidableEq, Repr

/-- The queues by name (Table 9-A). -/
def queueLock : Fin 4 := 0
def queueStore : Fin 4 := 1
def queueCue : Fin 4 := 2
def queueFault : Fin 4 := 3

/-- The records a queue can hold (R155). -/
def queueRoom : Nat := 24

/-- A report joins the tail of its queue; a full queue discards it, and OVERRUNq is latched (R155). -/
def ReportUnit.join (r : ReportUnit) (q : Fin 4) (rep : Report) : ReportUnit :=
  if (r.queues[q]).length < queueRoom then { r with queues := r.queues.set q (r.queues[q] ++ [rep]) }
  else r.latch (condOverrun q)

/-- A unit posts a report: it carries the field count standing now (R154). -/
def State.post (s : State) (p : Post) : State :=
  s.setReports (s.reports.join p.queue ⟨p.kind, s.timing.count, p.argA, p.argB⟩)

/-- A unit posts several reports in order. -/
def State.postAll (s : State) (ps : List Post) : State := ps.foldl State.post s

/-- Whether the rules put the reports of the first piece of work before those of the second: the generators step after the walk
(R112, R150), and `ahead`, the bank unit's or the mixer's work where one of them is known to come before the walk (R99, R108),
posts before both (R150). -/
def settledBefore (ahead : Option Work) : Work → Work → Bool
  | .walk, .fade _ => true
  | a, .walk => decide (ahead = some a)
  | a, .fade _ => decide (ahead = some a)
  | _, _ => false

/-- The turn of the walk at a draw: after that of the work known to come before it. -/
def walkTurn (draw : Nat) : Option Work → Nat
  | none => Config.turn draw .walk
  | some w => Config.turn draw w + 1 + Config.turn draw .walk

/-- The turn of a piece of work at a draw; a generator's comes after the walk's. -/
def workTurn (draw : Nat) (ahead : Option Work) : Work → Nat
  | .walk => walkTurn draw ahead
  | .fade g => walkTurn draw ahead + 1 + Config.turn draw (.fade g)
  | w => Config.turn draw w

/-- Whether the first piece of work posts before the second: as the rules settle it, else by their turns. -/
def workBefore (draw : Nat) (ahead : Option Work) (a b : Work) : Bool :=
  settledBefore ahead a b || (!settledBefore ahead b a && decide (workTurn draw ahead a ≤ workTurn draw ahead b))

/-- The reports of one piece of work put in their place among the others'. -/
def insertWork (draw : Nat) (ahead : Option Work) (x : Work × List Post) : List (Work × List Post) → List (Work × List Post)
  | [] => [x]
  | y :: ys => if workBefore draw ahead x.1 y.1 then x :: y :: ys else y :: insertWork draw ahead x ys

/-- The pieces of work that post anything, in the order of their turns. -/
def arrangeWork (draw : Nat) (ahead : Option Work) (ws : List (Work × List Post)) : List (Work × List Post) :=
  (ws.filter fun w => !w.2.isEmpty).foldr (insertWork draw ahead) []

/-- Several pieces of work of one event post their reports; each keeps the order of its own, and the order of the pieces is
open (R155; log 10, 13) but for what the rules settle. -/
def State.postWork (s : State) (ahead : Option Work) (ws : List (Work × List Post)) : State :=
  ((arrangeWork s.draw ahead ws).foldl (fun t w => t.postAll w.2) s).setDraw (s.draw + 1)

/-! ## Samples of a slot (spec/04, R69, R71) -/

/-- The samples of a line. -/
def sampleRoom : Nat := 640

/-- The sample of a given number; one not listed is black. -/
def Samples.read (m : Samples) (k : Nat) : Sample :=
  match m.find? (fun e => e.1 == k) with
  | some e => e.2
  | none => Sample.black

/-- A sample without its entry. -/
def Samples.remove (k : Nat) : Samples → Samples
  | [] => []
  | e :: es => if e.1 = k then es else e :: Samples.remove k es

/-- A sample's entry put in its place by number. -/
def Samples.insert (k : Nat) (v : Sample) : Samples → Samples
  | [] => [(k, v)]
  | e :: es => if k < e.1 then (k, v) :: e :: es else if e.1 = k then (k, v) :: es else e :: Samples.insert k v es

/-- Placing a sample; placing black leaves no entry, so that equal contents are equal lists (log 19). -/
def Samples.write (m : Samples) (k : Nat) (v : Sample) : Samples :=
  if v = Sample.black then Samples.remove k m else Samples.insert k v m

/-- The canonical form, from a lower bound on the numbers on: rising, below 640, no entry black. -/
def Samples.wfFrom : Nat → Samples → Bool
  | _, [] => true
  | lo, e :: es => decide (lo ≤ e.1) && decide (e.1 < sampleRoom) && decide (e.2 ≠ Sample.black) && Samples.wfFrom (e.1 + 1) es

/-- The canonical form of a slot's samples. -/
def Samples.wf (m : Samples) : Bool := Samples.wfFrom 0 m

/-! ## The lists of the cue pool (spec/07, R124, R125) -/

/-- The indices on a list, head first. -/
def CuePool.on (p : CuePool) : CueList → List (Fin 64)
  | .free => p.free
  | .armed => p.armed
  | .held => p.held
  | .done => p.done

/-- A list replaced. -/
def CuePool.setOn (p : CuePool) (l : CueList) (ids : List (Fin 64)) : CuePool :=
  match l with
  | .free => { p with free := ids }
  | .armed => { p with armed := ids }
  | .held => { p with held := ids }
  | .done => { p with done := ids }

/-- The list a cue is on: the record's list field. -/
def CuePool.listOf (p : CuePool) (i : Fin 64) : CueList :=
  if p.armed.contains i then .armed
  else if p.held.contains i then .held
  else if p.done.contains i then .done
  else .free

/-- Removal: a cue leaves the list it is on (R125). -/
def CuePool.remove (p : CuePool) (i : Fin 64) : CuePool :=
  p.setOn (p.listOf i) ((p.on (p.listOf i)).erase i)

/-- Where a cue is inserted on a list: at the head, at the tail, or before a named cue (R125). -/
inductive Place where
  | head
  | tail
  | before (j : Fin 64)
deriving DecidableEq, Repr

/-- A cue put immediately before another in an order. -/
def insertBefore (i j : Fin 64) : List (Fin 64) → List (Fin 64)
  | [] => [i]
  | x :: xs => if x = j then i :: x :: xs else x :: insertBefore i j xs

/-- An order with a cue put in at a place. -/
def insertAt (i : Fin 64) (at' : Place) (ids : List (Fin 64)) : List (Fin 64) :=
  match at' with
  | .head => i :: ids
  | .tail => ids ++ [i]
  | .before j => insertBefore i j ids

/-- The one step of R125: removal from the list the cue is on, insertion into the target list. -/
def CuePool.move (p : CuePool) (i : Fin 64) (l : CueList) (at' : Place) : CuePool :=
  (p.remove i).setOn l (insertAt i at' ((p.remove i).on l))

/-- The index after the given one in an order: the record's next link. -/
def nextIn (i : Fin 64) : List (Fin 64) → Option (Fin 64)
  | [] => none
  | x :: xs => if x = i then xs.head? else nextIn i xs

/-- The previous and next links of a cue (R124). -/
def CuePool.prevOf (p : CuePool) (i : Fin 64) : Option (Fin 64) := nextIn i (p.on (p.listOf i)).reverse
def CuePool.nextOf (p : CuePool) (i : Fin 64) : Option (Fin 64) := nextIn i (p.on (p.listOf i))

/-- A record replaced. -/
def CuePool.setRecord (p : CuePool) (i : Fin 64) (c : Cue) : CuePool := { p with records := p.records.set i c }

/-- The pending set, in ascending order of index (R134). -/
def CuePool.pendingSet (p : CuePool) : List (Fin 64) := (List.finRange 64).filter fun i => (p.records[i]).pending

end Sys2Proof.Machine
end

