-- ==== Sys2Proof/Machine/Store.lean ====
section
/-! DEFINITION. The line store (spec/04): activity, the write of a reference line, the read of a generated line, sampling,
the output to the mixer, and the reply to QUERY STORE. -/

namespace Sys2Proof.Machine

/-- A reference line-start event (R18): its stamp, its key unless UNNUMBERED, whether it is SYNTHETIC, and σ when it is
flagged STEP. -/
structure RefLine where
  stamp     : Stamp
  key       : Option Key
  synthetic : Bool
  step      : Option Int
deriving DecidableEq, Repr

/-! ## Slots (R66, R67) -/

def Store.role (st : Store) (i : Fin 8) : SlotRole := (st.slots[i]).role

/-- The age of a slot: the counter less its write sequence number, modulo 2^16 (R67). -/
def Store.age (st : Store) (i : Fin 8) : Nat := (st.seq - (st.slots[i]).seq).toNat

/-- The FILLED slots, by number. -/
def Store.filled (st : Store) : List (Fin 8) := (List.finRange 8).filter fun i => st.role i = .filled

/-- The FILLED slot that holds a key. -/
def Store.lookUp (st : Store) (k : Key) : Option (Fin 8) := st.filled.find? fun i => (st.slots[i]).key = k

/-- The oldest of some slots: the one with the greatest age. -/
def Store.oldest (st : Store) : List (Fin 8) → Option (Fin 8)
  | [] => none
  | i :: is =>
    match st.oldest is with
    | none => some i
    | some j => if st.age j ≤ st.age i then some i else some j

/-- A slot replaced. -/
def Store.setSlot (st : Store) (i : Fin 8) (x : Slot) : Store := { st with slots := st.slots.set i x }

/-- A slot made FREE; its sampling ends (R71). -/
def Store.freeSlot (st : Store) (i : Fin 8) : Store :=
  { st.setSlot i Slot.cleared with
    sampling := if st.sampling.map (·.slot) = some i then none else st.sampling }

/-- Several slots made FREE. -/
def Store.freeSlots (st : Store) (is : List (Fin 8)) : Store := is.foldl Store.freeSlot st

/-- The previous SHOWN slot becomes FREE and the shown slot none. -/
def Store.freeShown (st : Store) : Store :=
  match st.shown with
  | some i => { st.freeSlot i with shown := none }
  | none => st

/-! ## Activity (R68) -/

/-- Every slot FREE, no shown slot and no sampling. -/
def Store.emptied (st : Store) : Store :=
  { st with slots := Vector.replicate 8 Slot.cleared, shown := none, sampling := none }

/-- Whether the store is ACTIVE in a lock state (R68). -/
def LockState.storeActive : LockState → Bool
  | .acquire => true
  | .locked => true
  | _ => false

/-- A change of lock state handed to the store (R68): between ACQUIRE and LOCKED it keeps its slots, into them it starts
empty with no last line-1 result, and out of them it is cleared. -/
def Store.handed (st : Store) (new : LockState) : Store :=
  if new.storeActive then
    if st.active then st else { st.emptied with active := true, lineOne := none }
  else { st.emptied with active := false }

/-! ## Writing a reference line (R69, R70, R71) -/

/-- A DROP or REPEAT report of the STORE queue. -/
def storePost (kind : ReportKind) (argA keyCode : Nat) : Post :=
  ⟨queueStore, kind, BitVec.ofNat 8 argA, BitVec.ofNat 16 keyCode⟩

/-- R70: the lowest-numbered FREE slot, or else the oldest FILLED one, whose line is lost. -/
def Store.choose (st : Store) : Option (Fin 8) × Bool :=
  match (List.finRange 8).find? (fun i => st.role i = .free) with
  | some i => (some i, false)
  | none => (st.oldest st.filled, true)

/-- R69 step 3 and 4: the chosen slot takes the line. -/
def Store.fill (st : Store) (i : Fin 8) (k : Key) (l : RefLine) : Store :=
  { st.setSlot i ⟨.filled, k, st.seq, l.synthetic, l.step.isSome, []⟩ with
    seq := st.seq + 1
    sampling := if l.synthetic then none else some ⟨i, l.stamp⟩ }

/-- R69 step 1: a FILLED slot of the same key becomes FREE. -/
def Store.supersede (st : Store) (k : Key) : Store :=
  match st.lookUp k with
  | some i => st.freeSlot i
  | none => st

/-- A reference line start reaches the store (R69): nothing when IDLE; an UNNUMBERED one ends the sampling; a keyed one is
written, with DROP and SLIP when a line is lost. -/
def State.storeWrite (s : State) (l : RefLine) : State :=
  if s.store.active then
    match l.key with
    | none => s.setStore { s.store with sampling := none }
    | some k =>
      let st := s.store.supersede k
      match st.choose with
      | (some i, dropped) =>
        let s1 := s.setStore (st.fill i k l)
        if dropped then (s1.post (storePost .drop 1 (st.slots[i]).key.code)).latch condSlip else s1
      | (none, _) => s.setStore st
  else s

/-! ## Sampling (R71) -/

/-- The number of the sample whose instant a tick with the given reading is, for a line with the given stamp: the tick is a
sample instant when its reading is a multiple of 32 fu, and sample k is taken at the first instant at or after the
line's stamp plus 3,584 + 32k fu. -/
def sampleDue (line reading : Stamp) : Option Nat :=
  let d := stampDiff reading line - 3584
  if reading.toNat % 32 = 0 ∧ 0 ≤ d then some (d / 32).toNat else none

/-- A tick with the given reading: at a sample instant the sample goes into the sampling slot, and sampling ends with sample
639. -/
def Store.sampleTick (st : Store) (reading : Stamp) (ref : Sample) : Store :=
  match st.sampling with
  | none => st
  | some sp =>
    match sampleDue sp.stamp reading with
    | none => st
    | some k =>
      if k < sampleRoom then
        let slot := st.slots[sp.slot]
        { st.setSlot sp.slot { slot with samples := Samples.write slot.samples k ref } with
          sampling := if k + 1 = sampleRoom then none else some sp }
      else { st with sampling := none }

/-! ## Reading a generated line (R72, R73, R74, R78) -/

/-- The FILLED slots older than a given one. -/
def Store.olderThan (st : Store) (i : Fin 8) : List (Fin 8) := st.filled.filter fun j => st.age i < st.age j

/-- R72: the found slot is shown, the previous one and every older FILLED slot become FREE. -/
def Store.found (st : Store) (i : Fin 8) : Store :=
  let older := st.olderThan i
  let st1 := st.freeShown
  let st2 := { st1.setSlot i { st1.slots[i] with role := .shown } with shown := some i }
  st2.freeSlots older

/-- The look-up of a generated line in an ACTIVE store: found (R72), a repeat (R73) or starved (R74), and whether it was
found. DESIGN CHOICE (log 32): a repeat of a slot flagged SYNTHETIC, which shows a slot again and presents black, is posted
with argA 1. -/
def State.storeLookUp (s : State) (k : Key) : State × Bool :=
  match s.store.lookUp k with
  | some i =>
    let older := s.store.olderThan i
    let s1 := s.setStore (s.store.found i)
    match s.store.oldest older with
    | some j => ((s1.post (storePost .drop older.length (s.store.slots[j]).key.code)).latch condSlip, true)
    | none => (s1, true)
  | none =>
    if s.store.filled.isEmpty then (s.setStore s.store.freeShown, false)
    else ((s.post (storePost .repeated (boolCode s.store.shown.isSome) k.code)).latch condSlip, false)

/-! ## Output to the mixer (R75, R76) -/

/-- The horizontal mapping: the slot sample that output pixel x shows (R76). -/
def sampleOfPixel (std : Standard) (lpix : Nat) (h : Int) (x : Nat) : Int := ((x * sline std / lpix : Nat) : Int) + h - 112

/-- The store's output for the pixel x of the line in progress (R75). -/
def Store.output (st : Store) (std : Standard) (lpix x : Nat) : Sample :=
  match st.shown with
  | none => Sample.black
  | some i =>
    if (st.slots[i]).synthetic then Sample.black
    else
      let j := sampleOfPixel std lpix st.hLine x
      if 0 ≤ j ∧ j < 640 then Samples.read (st.slots[i]).samples j.toNat else Sample.black

/-! ## The reply to QUERY STORE (R82, Table 10-G) -/

/-- Whether the store is presenting black: no SHOWN slot, or one flagged SYNTHETIC. -/
def Store.presentsBlack (st : Store) : Bool :=
  match st.shown with
  | none => true
  | some i => (st.slots[i]).synthetic

def Slot.bytes (x : Slot) : List Byte :=
  match x.role with
  | .free => bytesOf 6 0
  | r => bytesOf 1 r.code ++ bytesOf 2 x.key.code ++ bytesOf 2 x.seq.toNat ++
      bytesOf 1 (boolCode x.synthetic + 2 * boolCode x.step)

/-- The store record of 56 bytes. -/
def Store.bytes (st : Store) : List Byte :=
  bytesOf 1 (boolCode st.active) ++ bytesOf 1 st.d ++ bytesOfInt 1 st.h ++ bytesOf 2 st.seq.toNat ++
  bytesOf 1 (indexCode (st.shown.map (·.val))) ++ bytesOf 1 (boolCode st.presentsBlack) ++ bytesOf 1 (lineOneCode st.lineOne) ++
  st.slots.toList.flatMap Slot.bytes

end Sys2Proof.Machine
end

