-- ==== Sys2Proof/Machine/Engine.lean ====
section
/-! DEFINITION. The lock engine: changes of lock state, the events it takes, the phase detector, the step offset and the
loop filter (spec/02; spec/03, sections 3.2 to 3.4). A function that answers a list of reports leaves the posting to its
caller, which may have to place them among other units' reports. -/

namespace Sys2Proof.Machine

/-! ## Changes of lock state (R49) -/

/-- A report of the LOCK queue with a natural argument. -/
def lockPost (kind : ReportKind) (argA argB : Nat) : Post := ⟨queueLock, kind, BitVec.ofNat 8 argA, BitVec.ofNat 16 argB⟩

/-- A report of the LOCK queue with a signed argB (R154). -/
def lockPostInt (kind : ReportKind) (argA : Nat) (argB : Int) : Post :=
  ⟨queueLock, kind, BitVec.ofNat 8 argA, BitVec.ofInt 16 argB⟩

/-- The UNLOCKED cause of a lock state (R49). -/
def LockState.isUnlocked : LockState → Bool
  | .free => true
  | .acquire => true
  | .holdover => true
  | .locked => false
  | .internal => false

/-- Whether entry to a lock state cancels a pending jam countdown (R62). ACQUIRE and LOCKED are not among R62's states. DESIGN
CHOICE (log 34): so the return from LOCKED to ACQUIRE keeps a check armed before LOCKED, and its result counts. -/
def LockState.cancelsJam : LockState → Bool
  | .free => true
  | .holdover => true
  | .internal => true
  | .acquire => false
  | .locked => false

/-- The shared operation of every change of lock state (R49, R62, R68, R88): `e` is the engine with the values the rule of
the change gives it, `setsK` says that the change sets K. STATE_CHANGE is posted when the state differs, and after it
AT_LIMIT_LEAVE when K is set while the AT_LIMIT cause is true (R35). The change is handed to the store and the mixer. -/
def State.changeLock (s : State) (new : LockState) (setsK : Bool) (e : Engine) : State × List Post :=
  let old := s.engine.lock
  let leaves := setsK && s.engine.atLimit
  let s1 := s.setEngine { e with lock := new, unlocked := new.isUnlocked, atLimit := s.engine.atLimit && !setsK }
  let s2 := s1.setStore (s.store.handed new)
  let s3 := s2.setMixer { s.mixer with recorded := new }
  let s4 := if new.cancelsJam then s3.setTiming { s.timing with jam := none } else s3
  (s4, (if new = old then [] else [lockPost .stateChange new.code old.code]) ++
    (if leaves then [lockPost .atLimitLeave 0 0] else []))

/-- The range of K (R33). -/
def Engine.clampK (e : Engine) (v : Int) : Nat := (clampInt (e.k0 - e.kspan) (e.k0 + e.kspan) v).toNat

/-- K = K0, I = 0 and S = 0 (R54, R55, R56). -/
def Engine.freeRun (e : Engine) : Engine := { e with k := e.k0, i := 0, s := 0 }

/-- Entry to LOCKED (R51): the drop run and the miss run become 0. -/
def State.enterLocked (s : State) : State × List Post :=
  s.changeLock .locked false { s.engine with dropRun := 0, missRun := 0 }

/-- The return from LOCKED to ACQUIRE (R52, R53). DESIGN CHOICE (log 34): a check still pending from before LOCKED stands, though
R52 speaks of the checks that later field starts arm as the first to bring LOCKED again. -/
def State.dropLock (s : State) : State × List Post :=
  s.changeLock .acquire false { s.engine with lockRun := 0, vmatch := false, dropRun := 0, missRun := 0 }

/-- The test of the entry to LOCKED, after an update and at a completed check (R51). -/
def State.testLocked (s : State) : State × List Post :=
  if s.engine.lock = .acquire ∧ s.engine.nLock ≤ s.engine.lockRun ∧ s.engine.vmatch = true then s.enterLocked else (s, [])

/-! ## Events from the classifier (R18) -/

/-- A reference field-start event: the parity of the field begun, whether it is SYNTHETIC, and its stamp, which no rule of the
lock engine reads (R18). -/
structure RefField where
  parity    : Parity
  synthetic : Bool
  stamp     : Stamp
deriving DecidableEq, Repr

/-- Entry to ACQUIRE on qualification: from FREE with I = 0 (R50), from HOLDOVER keeping I (R55). -/
def State.enterAcquire (s : State) : State × List Post :=
  let e := { s.engine with qual := 0, lockRun := 0, vmatch := false, holdover := 0 }
  s.changeLock .acquire false (if s.engine.lock = .free then { e with i := 0 } else e)

/-- A field verdict, with the ended field's parity and line count (R18), reaches the lock engine: its result is counted in FREE
and HOLDOVER, and it has no effect in the other states (R50, R51, R52, R55, R56). -/
def State.takeVerdict (s : State) (v : Verdict) : State × List Post :=
  if s.engine.lock = .free ∨ s.engine.lock = .holdover then
    if v.good then
      let q := countTo 255 s.engine.qual
      if s.engine.q ≤ q then s.enterAcquire else (s.setEngine { s.engine with qual := q }, [])
    else (s.setEngine { s.engine with qual := 0 }, [])
  else (s, [])

/-- A loss event reaches the lock engine (R54). -/
def State.takeLoss (s : State) : State × List Post :=
  match s.engine.lock with
  | .acquire | .locked =>
    let e := { s.engine with qual := 0, lockRun := 0, dropRun := 0, missRun := 0 }
    if 1 ≤ e.hmax then s.changeLock .holdover true { e with k := e.clampK (e.k0 - e.i), holdover := e.hmax }
    else s.changeLock .free true e.freeRun
  | .free | .holdover => (s.setEngine { s.engine with qual := 0 }, [])
  | .internal => (s, [])

/-- The decay of S toward zero at a reference field start (R31). -/
def decayOffset (v : Int) : Int :=
  if v = 0 then 0
  else
    let amount : Int := max 1 ((v.natAbs + 32) / 64 : Nat)
    if 0 < v then v - amount else v + amount

/-- A reference field start reaches the lock engine: S decays in every state (R31), and a real one in ACQUIRE arms a jam
check with due count D (R59). -/
def State.takeFieldStart (s : State) (f : RefField) : State :=
  let s1 := s.setEngine { s.engine with s := decayOffset s.engine.s }
  if s.engine.lock = .acquire ∧ f.synthetic = false then
    s1.setTiming { s.timing with jam := some ⟨f.parity, s.store.d, s.store.d⟩ }
  else s1

/-! ## Measurement (R26 to R30) -/

/-- The step offset brought up to date by a measured STEP line start in the TAPE profile (R30). -/
def Engine.takeStep (e : Engine) (step : Option Int) : Engine :=
  match step, e.profile with
  | some sigma, .tape => { e with s := clampInt (-8191) 8191 (e.s + sigma) }
  | _, _ => e

/-- The target stamp t = s_r − S + A modulo 2^24 (R27). -/
def Engine.target (e : Engine) (ref : Stamp) : Stamp := stampAdd ref (e.a - e.s)

/-- The generated line start to measure from: the most recent stamp at or before t, or the oldest held; none when the
history is empty (R27). -/
def Engine.measureFrom (e : Engine) (t : Stamp) : Option Stamp :=
  match e.history.find? fun g => decide (0 ≤ stampDiff t g) with
  | some g => some g
  | none => e.history.getLast?

/-- The distance folded into one nominal line and clamped (R28). -/
def foldError (ln x : Nat) : Int :=
  let r := x % ln
  clampInt (-4095) 4095 (if r ≤ ln / 2 then (r : Int) else (r : Int) - ln)

/-! ## The loop filter (R32, R33, R35) -/

/-- The gain pair of a profile and a phase; LOCKED is true in the LOCKED phase. -/
def Gains.pair (g : Gains) (p : Profile) (locked : Bool) : GainPair :=
  match p, locked with
  | .broadcast, false => g.broadcastAcquire
  | .broadcast, true => g.broadcastLocked
  | .tape, false => g.tapeAcquire
  | .tape, true => g.tapeLocked

/-- The gain pair in use (R32, R39). -/
def Engine.gainsInUse (e : Engine) : GainPair := e.gains.pair e.profile (e.lock = .locked)

/-- The new integral term: I + ΔI clamped to ±Kspan (R33, step 4). -/
def Engine.nextI (e : Engine) (err : Int) : Int :=
  clampInt (-e.kspan) e.kspan (e.i + roundedShift (err * 65536) e.gainsInUse.si)

/-- K0 − P − I before its clamp, with the new I (R33, step 5). -/
def Engine.rawK (e : Engine) (err : Int) : Int := e.k0 - roundedShift (err * 65536) e.gainsInUse.sp - e.nextI err

/-- Whether the clamp of step 5 acts (R35). -/
def Engine.clampActs (e : Engine) (err : Int) : Bool :=
  decide (e.rawK err < e.k0 - e.kspan) || decide (e.k0 + e.kspan < e.rawK err)

/-- The report of a change of the AT_LIMIT cause by an update (R35). -/
def Engine.limitPosts (e : Engine) (err : Int) : List Post :=
  if e.clampActs err = e.atLimit then []
  else if e.clampActs err then
    [lockPostInt .atLimitEnter (if e.k0 + e.kspan < e.rawK err then 1 else 2) err]
  else [lockPostInt .atLimitLeave 0 err]

/-- One filter update with the clamped phase error (R33); the error is kept as the last phase error (R28). -/
def Engine.update (e : Engine) (err : Int) : Engine :=
  { e with e := err, i := e.nextI err, k := e.clampK (e.rawK err), atLimit := e.clampActs err }

/-- The lock run or the drop run after an update (R51, R52). -/
def Engine.countRun (e : Engine) : Engine :=
  match e.lock with
  | .acquire => { e with lockRun := if e.e.natAbs ≤ e.wLock then countTo 1023 e.lockRun else 0 }
  | .locked => { e with dropRun := if e.wDrop < e.e.natAbs then countTo 255 e.dropRun else 0 }
  | _ => e

/-- The transition tested after an update: entry to LOCKED (R51) or drop of lock (R52). -/
def State.testUpdate (s : State) : State × List Post :=
  match s.engine.lock with
  | .acquire => s.testLocked
  | .locked => if s.engine.nUnlock ≤ s.engine.dropRun then s.dropLock else (s, [])
  | _ => (s, [])

/-- The measurement of one reference line start (R26): only a real one, in ACQUIRE or LOCKED. With an empty history no
update is made (R27). -/
def State.measure (s : State) (l : RefLine) : State :=
  if l.synthetic = false ∧ (s.engine.lock = .acquire ∨ s.engine.lock = .locked) then
    let e := s.engine.takeStep l.step
    let t := e.target l.stamp
    match e.measureFrom t with
    | none => s.setEngine e
    | some g =>
      let err := foldError (lnom s.timing.standard) (t - g).toNat
      let s1 := (s.setEngine (e.update err).countRun).postAll (e.limitPosts err)
      let r := s1.testUpdate
      r.1.postAll r.2
  else s

/-! ## Events from the timing generator and the line store -/

/-- A generated line-start event: the stamp joins the history of three (R25). -/
def Engine.record (e : Engine) (stamp : Stamp) : Engine := { e with history := (stamp :: e.history).take 3 }

/-- A generated field-start event: HOLDOVER counts down, and at 0 the engine enters FREE (R55). -/
def State.takeGeneratedField (s : State) : State × List Post :=
  if s.engine.lock = .holdover then
    let n := s.engine.holdover - 1
    let e := { s.engine with holdover := n }
    if n = 0 then s.changeLock .free true e.freeRun else (s.setEngine e, [])
  else (s, [])

/-- A line-1 result: in LOCKED a hit clears the miss run and the second miss in a row drops lock (R53). -/
def State.takeLineOne (s : State) (r : LineOne) : State × List Post :=
  if s.engine.lock = .locked then
    match r with
    | .hit => (s.setEngine { s.engine with missRun := 0 }, [])
    | .miss =>
      let n := s.engine.missRun + 1
      if 2 ≤ n then s.dropLock else (s.setEngine { s.engine with missRun := n }, [])
  else (s, [])

/-- A generated line start reaches the store: the H in force is taken for the line (R76, R81); an ACTIVE store reads the
line (R72 to R74), and at a line 1 keeps the result and sends it to the lock engine (R78). -/
def State.storeRead (s : State) (k : Key) : State :=
  let s0 := s.setStore { s.store with hLine := s.store.h }
  if s0.store.active then
    let r := s0.storeLookUp k
    if k.line = 1 then
      let res : LineOne := if r.2 then .hit else .miss
      let s1 := r.1.setStore { r.1.store with lineOne := some res }
      let q := s1.takeLineOne res
      q.1.postAll q.2
    else r.1
  else s0

/-! ## Host requests on the lock state (R56) and timing restart (R64, R40) -/

/-- SET INTERNAL from any other state. -/
def State.enterInternal (s : State) : State × List Post :=
  s.changeLock .internal true
    { s.engine.freeRun with qual := 0, lockRun := 0, dropRun := 0, missRun := 0, holdover := 0 }

/-- RELEASE INTERNAL, in INTERNAL. -/
def State.leaveInternal (s : State) : State × List Post :=
  s.changeLock .free true { s.engine.freeRun with qual := 0 }

/-- The engine's part of a timing restart: FREE, K0 and Kspan from the stored standard and Lpix, the loop values of R40 and
the counts of R64. -/
def State.engineRestart (s : State) : State × List Post :=
  let k0 := nominalIncrement s.timing.standard s.timing.lpix
  s.changeLock .free true
    { s.engine with k0 := k0, kspan := k0 / 64, k := k0, i := 0, s := 0, e := 0, qual := 0, lockRun := 0, dropRun := 0,
                    missRun := 0, holdover := 0, vmatch := false }

end Sys2Proof.Machine
end

