-- ==== Sys2Proof/Machine/Classifier.lean ====
section
/-! DEFINITION. The sync classifier (spec/01): pulse classes, SEARCH, TRACK, predictions, numbering, verdicts, loss, and
the commands that the reference input brings. -/

namespace Sys2Proof.Machine

/-! ## Pulse classes (R1, Table 1-A) -/

inductive PulseClass where | noise | short | line | broad | overlong
deriving DecidableEq, Repr

/-- The class of a width in ticks. -/
def pulseClass (width : Nat) : PulseClass :=
  if width < 32 then .noise
  else if width < 84 then .short
  else if width < 192 then .line
  else if width < 960 then .broad
  else .overlong

/-! ## Lavg, predictions and windows (R4, R5, R8, R11) -/

/-- The clamp on Lavg: Lnom ± floor(3 × Lnom/100). -/
def clampLavg (std : Standard) (v : Int) : Nat :=
  (clampInt (lnom std - (3 * lnom std / 100 : Nat)) (lnom std + (3 * lnom std / 100 : Nat)) v).toNat

/-- The prediction from an anchor's stamp, with the Wn and Ww in force captured (R5). -/
def Classifier.predict (c : Classifier) (anchor : Stamp) : Prediction := ⟨stampAdd anchor c.lavg, c.wn, c.ww⟩

/-- Whether a stamp lies within a half-width in ticks of a centre. -/
def within (centre : Stamp) (ticks : Nat) (stamp : Stamp) : Bool := decide ((stampDiff stamp centre).natAbs ≤ 16 * ticks)

/-- Whether a stamp lies in the narrow or the wide window of the standing prediction. -/
def Classifier.inNarrow (c : Classifier) (stamp : Stamp) : Bool :=
  match c.prediction with
  | some p => within p.stamp p.wn stamp
  | none => false

def Classifier.inWide (c : Classifier) (stamp : Stamp) : Bool :=
  match c.prediction with
  | some p => within p.stamp p.ww stamp
  | none => false

/-- Whether a stamp lies in the open mid-line window: within 16 × Wn of the anchor plus floor(Lavg/2), with the Wn captured
with the prediction (R8, R19). -/
def Classifier.inMidLine (c : Classifier) (stamp : Stamp) : Bool :=
  match c.anchor, c.prediction with
  | some a, some p => c.midLine && within (stampAdd a.stamp (c.lavg / 2 : Nat)) p.wn stamp
  | _, _ => false

/-- The Lavg update of an ordinary real line start (R11). -/
def Classifier.updateLavg (c : Classifier) (std : Standard) (stamp : Stamp) : Classifier :=
  match c.anchor with
  | some a =>
    if a.real && !a.step then
      { c with lavg := clampLavg std (c.lavg + sixteenthHalfAway ((stamp - a.stamp).toNat - c.lavg)) }
    else c
  | none => c

/-- One more bad event of the current field (R15). -/
def Classifier.countBad (c : Classifier) : Classifier := { c with badCount := countTo 255 c.badCount }

/-! ## Verdicts and field starts (R12 to R17) -/

/-- A line count of the other standard (R17). -/
def wrongStandardLines (std : Standard) (n : Nat) : Bool :=
  match std with
  | .s625 => n == 262 || n == 263
  | .s525 => n == 312 || n == 313

/-- The result of a verdict on a field of the given key's parity and line count (R16). -/
def Classifier.isGood (c : Classifier) (std : Standard) (k : Key) : Bool :=
  k.line == fieldLength std k.parity && decide (c.badCount ≤ c.b) && c.previous == some k.parity.other && !c.startSynthetic

/-- The wrong-standard test of a verdict: the run and the cause, and the report of a change of the cause (R17). -/
def Classifier.testStandard (c : Classifier) (std : Standard) (k : Key) : Classifier × List Post :=
  if wrongStandardLines std k.line then
    let n := countTo 4 c.wrongRun
    if n = 4 ∧ c.mismatch = false then
      ({ c with wrongRun := n, mismatch := true }, [lockPost .standardMismatch 0 k.line])
    else ({ c with wrongRun := n }, [])
  else if k.line = fieldLength std k.parity then
    if c.mismatch then ({ c with wrongRun := 0, mismatch := false }, [lockPost .standardOk 0 k.line])
    else ({ c with wrongRun := 0 }, [])
  else ({ c with wrongRun := 0 }, [])

/-- The verdict on the field just ended, if numbering was numbered, handed on to the lock engine (R16, R17, R18). -/
def State.giveVerdict (s : State) : State :=
  match s.classifier.numbering with
  | .numbered k =>
    let v : Verdict := ⟨k.parity, k.line, s.classifier.isGood s.timing.standard k⟩
    let t := s.classifier.testStandard s.timing.standard k
    let s1 := s.setClassifier { t.1 with verdict := some v, flywheel := v.good, previous := some k.parity }
    let r := s1.takeVerdict v
    r.1.postWork none [(.classifier, t.2), (.engine, r.2)]
  | _ => s

/-- A reference field start: the verdict, the bad-event count cleared, the field-sync run begun, the numbering set, and the
field-start event to the lock engine (R12, R14, R15, R16, R18). -/
def State.startRefField (s : State) (f : RefField) (n : Numbering) : State :=
  let s1 := s.giveVerdict
  let s2 := s1.setClassifier
    { s1.classifier with badCount := 0, startSynthetic := f.synthetic, syncRun := true, numbering := n }
  s2.takeFieldStart f

/-- What recognition makes of an offered BROAD pulse: it starts a field, belongs to the field's sync, or is refused by a
shut gate (R12). -/
inductive Offer where | starts | partOfSync | refused
deriving DecidableEq, Repr

def Classifier.offer (c : Classifier) : Offer :=
  match c.numbering with
  | .unnumbered => .starts
  | .awaiting _ => .partOfSync
  | .numbered k => if c.syncRun then .partOfSync else if 200 ≤ k.line then .starts else .refused

/-- The flywheel limit (R14). -/
def Classifier.flywheelLimit (c : Classifier) (std : Standard) (p : Parity) : Nat :=
  if c.flywheel then fieldLength std p + 1 else 314

/-- The number of a grid line start with the given stamp that is not itself a field-sync pulse starting a field (R13), with the
flywheel (R14). -/
def State.numberLine (s : State) (stamp : Stamp) : State × Option Key :=
  match s.classifier.numbering with
  | .unnumbered => (s, none)
  | .awaiting p => (s.setClassifier { s.classifier with numbering := .numbered ⟨p, 1⟩ }, some ⟨p, 1⟩)
  | .numbered k =>
    if k.line + 1 = s.classifier.flywheelLimit s.timing.standard k.parity then
      let k' : Key := ⟨k.parity.other, 1⟩
      (s.startRefField ⟨k'.parity, true, stamp⟩ (.numbered k'), some k')
    else
      let k' : Key := ⟨k.parity, k.line + 1⟩
      (s.setClassifier { s.classifier with numbering := .numbered k' }, some k')

/-- The grid line start of a BROAD pulse with the given stamp (R12, R13): it may start a field of parity 1 and is then its
line 1. -/
def State.numberBroad (s : State) (stamp : Stamp) : State × Option Key :=
  match s.classifier.offer with
  | .starts => (s.startRefField ⟨.one, false, stamp⟩ (.numbered ⟨.one, 1⟩), some ⟨.one, 1⟩)
  | .partOfSync => s.numberLine stamp
  | .refused => (s.setClassifier s.classifier.countBad).numberLine stamp

/-! ## Line starts (R6, R7, R9, R10) -/

/-- A reference line-start event leaves the classifier for the line store and the lock engine (R18). -/
def State.emitLine (s : State) (l : RefLine) : State := (s.storeWrite l).measure l

/-- The new anchor and the prediction from it (R5). -/
def Classifier.anchorAt (c : Classifier) (stamp : Stamp) (real step : Bool) : Classifier :=
  { c with anchor := some ⟨stamp, real, step⟩, prediction := some (c.predict stamp), closeHeld := false }

/-- What the class of a real grid line start does to the mid-line window and the field-sync run (R8, R12). -/
def Classifier.takeClass (c : Classifier) (cls : PulseClass) : Classifier :=
  match cls with
  | .short => { c with midLine := true }
  | .line => { c with midLine := false, syncRun := false }
  | _ => c

/-- A pulse accepted as a grid line start, ordinary or with its step σ (R6, R7). -/
def State.acceptGrid (s : State) (cls : PulseClass) (stamp : Stamp) (step : Option Int) : State :=
  let c := { s.classifier with synthCount := 0 }
  let c1 := if step.isNone then c.updateLavg s.timing.standard stamp else c
  let s1 := s.setClassifier (c1.takeClass cls)
  let r := if cls = .broad then s1.numberBroad stamp else s1.numberLine stamp
  let s2 := r.1.emitLine ⟨stamp, r.2, false, step⟩
  s2.setClassifier (s2.classifier.anchorAt stamp true step.isSome)

/-- The reference is lost: SEARCH, REF_LOST, and the loss event to the lock engine (R10). -/
def State.loseReference (s : State) : State :=
  let s1 := s.setClassifier
    { s.classifier with
      tracking := .search, refAbsent := true, prediction := none, midLine := false, syncRun := false,
      numbering := .unnumbered, badCount := 0, synthCount := 0, previous := none, flywheel := false, wrongRun := 0,
      candidate := none, closeHeld := false }
  let r := (s1.post (lockPost .refLost 0 0)).takeLoss
  r.1.postAll r.2

/-- A SYNTHETIC line start at the predicted stamp (R9), and the loss when the count reaches Nloss (R10). -/
def State.makeSynthetic (s : State) : State :=
  match s.classifier.prediction with
  | none => s
  | some p =>
    let r := s.numberLine p.stamp
    let s1 := r.1.setClassifier { r.1.classifier.countBad with synthCount := countTo 63 r.1.classifier.synthCount }
    let s2 := s1.emitLine ⟨p.stamp, r.2, true, none⟩
    let s3 := s2.setClassifier (s2.classifier.anchorAt p.stamp false false)
    if s3.classifier.nloss ≤ s3.classifier.synthCount then s3.loseReference else s3

/-! ## Judging a pulse -/

/-- Entry to TRACK on the second pulse of an accepted pair, with the measured spacing (R4). The recovery event
(R18) changes nothing in the lock engine (R50). DESIGN CHOICE (log 33): the candidate, which R4 does not mention, becomes none. -/
def State.enterTrack (s : State) (stamp : Stamp) (spacing : Nat) : State :=
  let c := { s.classifier with
    lavg := clampLavg s.timing.standard spacing, anchor := some ⟨stamp, true, false⟩, synthCount := 0, badCount := 0,
    numbering := .unnumbered, previous := none, flywheel := false, verdict := none, midLine := false, syncRun := false,
    refAbsent := false, tracking := .track, candidate := none, closeHeld := false }
  let s1 := (s.setClassifier c).post (lockPost .refFound 0 0)
  let s2 := s1.emitLine ⟨stamp, none, false, none⟩
  s2.setClassifier (s2.classifier.anchorAt stamp true false)

/-- Whether a spacing opens TRACK: within Lnom ± floor(Lnom/20) (R3). -/
def spacingOk (std : Standard) (d : Nat) : Bool := decide (((d : Int) - lnom std).natAbs ≤ lnom std / 20)

/-- A pulse in SEARCH (R3). -/
def State.pulseInSearch (s : State) (cls : PulseClass) (stamp : Stamp) : State :=
  match cls with
  | .noise => s
  | .line =>
    match s.classifier.candidate with
    | none => s.setClassifier { s.classifier with candidate := some stamp }
    | some c =>
      let d := (stamp - c).toNat
      if spacingOk s.timing.standard d then s.enterTrack stamp d
      else s.setClassifier { s.classifier with candidate := some stamp }
  | _ => s.setClassifier { s.classifier with candidate := none }

/-- A pulse that is not accepted as a line start: a closing held back for it now makes the synthetic line start (R9). -/
def State.releaseHeld (s : State) : State := if s.classifier.closeHeld then s.makeSynthetic else s

/-- A mid-line pulse (R8): a BROAD one is offered to field-start recognition, where it may start a field of parity 2 (R12). -/
def State.midLinePulse (s : State) (cls : PulseClass) (stamp : Stamp) : State :=
  if cls = .broad then
    match s.classifier.offer with
    | .starts => s.startRefField ⟨.two, false, stamp⟩ (.awaiting .two)
    | .partOfSync => s
    | .refused => s.setClassifier s.classifier.countBad
  else s

/-- A pulse in TRACK (R6, Table 1-C, the first row that applies). -/
def State.pulseInTrack (s : State) (cls : PulseClass) (stamp : Stamp) : State :=
  let c := s.classifier
  match cls with
  | .noise => s.releaseHeld
  | .overlong => (s.setClassifier c.countBad).releaseHeld
  | _ =>
    if (cls = .short ∨ cls = .broad) ∧ c.inMidLine stamp = true then (s.midLinePulse cls stamp).releaseHeld
    else if c.inNarrow stamp then s.acceptGrid cls stamp none
    else if c.inWide stamp then s.acceptGrid cls stamp (c.prediction.map fun p => stampDiff stamp p.stamp)
    else (s.setClassifier c.countBad).releaseHeld

/-- A pulse handled with its class and leading-edge stamp. -/
def State.handlePulse (s : State) (cls : PulseClass) (stamp : Stamp) : State :=
  match s.classifier.tracking with
  | .search => s.pulseInSearch cls stamp
  | .track => s.pulseInTrack cls stamp

/-! ## Timing restart (R20) -/

/-- The classifier's part of a timing restart, and STANDARD_OK when a change of standard ends a mismatch. -/
def Classifier.restart (c : Classifier) (std : Standard) (stdChanged : Bool) : Classifier × List Post :=
  let clears := stdChanged && c.mismatch
  ({ c with
      tracking := .search, lavg := lnom std, candidate := none, prediction := none, midLine := false, syncRun := false,
      numbering := .unnumbered, synthCount := 0, badCount := 0, wrongRun := 0, previous := none, flywheel := false,
      refAbsent := true, mismatch := c.mismatch && !stdChanged, closeHeld := false },
    if clears then [lockPost .standardOk 0 0] else [])

/-! ## The commands of the reference input -/

/-- PULSE_LEADING_EDGE: the stamp is taken and a pulse is in progress (R1). One pulse is in progress at a time; a leading
edge within a pulse is no event of the slicer (log 7). -/
def execPulseLeadingEdge (stamp : Stamp) (s : State) : Host.Outcome State Fault Refusal :=
  match s.pulse with
  | .idle => .next (s.setPulse (.inProgress stamp))
  | _ => .next s

/-- SYNC_PULSE: the trailing edge; the pulse is classed by its width and handled. The trailing edge of a pulse already
handled as OVERLONG is ignored (R1). -/
def execSyncPulse (width : Nat) (s : State) : Host.Outcome State Fault Refusal :=
  match s.pulse with
  | .idle => .next s
  | .handled => .next (s.setPulse .idle)
  | .inProgress stamp => .next ((s.setPulse .idle).handlePulse (pulseClass width) stamp).settle

/-- OVERLONG_PULSE: the pulse in progress has reached 960 ticks and is handled now (R1). -/
def execOverlongPulse (s : State) : Host.Outcome State Fault Refusal :=
  match s.pulse with
  | .inProgress stamp => .next ((s.setPulse .handled).handlePulse .overlong stamp).settle
  | _ => .next s

/-- CANDIDATE_EXPIRY: in SEARCH the candidate is discarded (R3). -/
def execCandidateExpiry (s : State) : Host.Outcome State Fault Refusal :=
  match s.classifier.tracking with
  | .search => .next (s.setClassifier { s.classifier with candidate := none })
  | .track => .next s

/-- Whether a pulse in progress holds the closing of the wide window back: its leading edge lies in the window (R9). -/
def State.closeIsHeld (s : State) : Bool :=
  match s.pulse with
  | .inProgress stamp => s.classifier.inWide stamp
  | _ => false

/-- WIDE_WINDOW_CLOSE: in TRACK the standing prediction's window closes; the synthetic line start is made, or is held back
until the pulse in progress is handled (R9). -/
def execWideWindowClose (s : State) : Host.Outcome State Fault Refusal :=
  match s.classifier.tracking with
  | .search => .next s
  | .track =>
    if s.closeIsHeld then .next (s.setClassifier { s.classifier with closeHeld := true })
    else .next s.makeSynthetic.settle

end Sys2Proof.Machine
end

