-- ==== Sys2Proof/Machine/Banks.lean ====
section
/-! DEFINITION. The window banks (spec/06, sections 6.1 to 6.4): the swap performed at a field start, the swap write of the
walk, and the edit of a staged window. -/

namespace Sys2Proof.Machine

/-- The windows of a bank. -/
def Banks.windows (b : Banks) : BankName → Vector Window 8
  | .a => b.a
  | .b => b.b

/-- The windows of a bank replaced. -/
def Banks.setWindows (b : Banks) (n : BankName) (ws : Vector Window 8) : Banks :=
  match n with
  | .a => { b with a := ws }
  | .b => { b with b := ws }

/-- The windows of the live bank, the ones the mixer uses. -/
def Banks.liveWindows (b : Banks) : Vector Window 8 := b.windows b.live

/-- A generated field start (R107): a pending swap exchanges the roles, copies when its flag says so, and posts BANK_LIVE. -/
def Banks.perform (b : Banks) : Banks × List Post :=
  match b.swap with
  | none => (b, [])
  | some copy =>
    let live := b.live.other
    let b1 := { b with live := live, swap := none }
    (if copy then b1.setWindows b.live (b1.windows live) else b1,
      [⟨queueCue, .bankLive, BitVec.ofNat 8 live.code, BitVec.ofNat 16 (boolCode copy)⟩])

/-- A swap write (R106, R108): taken when no swap is pending; none is the refusal. -/
def Banks.writeSwap (b : Banks) (copy : Bool) : Option Banks :=
  match b.swap with
  | none => some { b with swap := some copy }
  | some _ => none

/-- Whether an edit of the named bank is refused: the bank is live or a swap is pending (R103, R104). -/
def Banks.editRefused (b : Banks) (n : BankName) : Bool := decide (n = b.live) || b.swap.isSome

/-- A window of a bank takes a record (R103, R104). -/
def Banks.edit (b : Banks) (n : BankName) (i : Fin 8) (w : Window) : Banks := b.setWindows n ((b.windows n).set i w)

/-- The results of QUERY BANK (R110, Table 10-F): the pending copy flag is 0 with no swap pending (R177). -/
def Banks.bytes (b : Banks) (n : BankName) : List Byte :=
  bytesOf 1 b.live.code ++ bytesOf 1 (boolCode b.swap.isSome) ++ bytesOf 1 (boolCode (b.swap.getD false)) ++
  (b.windows n).toList.flatMap Window.bytes

end Sys2Proof.Machine
end

