-- ==== Sys2Proof/Machine/Fades.lean ====
section
/-! DEFINITION. The fade generators (spec/06, sections 6.5 to 6.7): the three kinds of step, the end of a walk, loads, holds
and resumes. -/

namespace Sys2Proof.Machine

/-- A step of a STOP generator (R113), and whether it reached its end. -/
def Fade.stepStop (f : Fade) : Fade × Bool :=
  let l := clampInt f.lo f.hi (f.level + f.step)
  let ended := (decide (0 < f.step) && decide (l = f.hi)) || (decide (f.step < 0) && decide (l = f.lo))
  ({ f with level := l.toNat, run := f.run && !ended }, ended)

/-- A step of a WRAP generator (R114). -/
def Fade.stepWrap (f : Fade) : Fade :=
  { f with level := (f.lo + ((f.level : Int) - f.lo + f.step) % ((f.hi : Int) - f.lo + 1)).toNat }

/-- A step of a BOUNCE generator (R115). -/
def Fade.stepBounce (f : Fade) : Fade :=
  let l : Int := f.level + f.step
  if (f.hi : Int) < l then { f with level := (2 * (f.hi : Int) - l).toNat, step := -f.step }
  else if l < f.lo then { f with level := (2 * (f.lo : Int) - l).toNat, step := -f.step }
  else { f with level := l.toNat }

/-- One step of the generator's kind, and whether FADE_END is posted (R112, R120). -/
def Fade.stepOnce (f : Fade) : Fade × Bool :=
  match f.kind with
  | .stop => f.stepStop
  | .wrap => (f.stepWrap, false)
  | .bounce => (f.stepBounce, false)

/-- The end of a walk reaches a generator (R112): a marked one loses its mark and makes no step, a running one steps. -/
def Fade.endWalk (f : Fade) : Fade × Bool :=
  if f.mark then ({ f with mark := false }, false)
  else if f.run then f.stepOnce
  else (f, false)

/-- FADE_END (R120). -/
def fadeEndPost (g : Fin 4) (level : Nat) : Post := ⟨queueCue, .fadeEnd, BitVec.ofNat 8 g.val, BitVec.ofNat 16 (alphaOf level)⟩

/-- The report that a generator posts at the end of a walk. -/
def fadePosts (fs : Vector Fade 4) (g : Fin 4) : List Post :=
  let r := (fs[g]).endWalk
  if r.2 then [fadeEndPost g r.1.level] else []

/-- A load (R116, step 6): the generator takes the values and enters RUN. -/
def Fade.load (f : Fade) (p : FadeParams) : Fade :=
  { f with run := true, kind := p.kind, level := p.level, step := p.step, lo := p.lo, hi := p.hi }

/-- A hold (R117): IDLE, everything else kept. -/
def Fade.hold (f : Fade) : Fade := { f with run := false }

/-- A resume (R117). -/
def Fade.resume (f : Fade) : Fade := { f with run := true }

/-- A load or a hold by the walk marks the generator (R118). -/
def Fade.marked (f : Fade) : Fade := { f with mark := true }

/-- The levels of the four generators. -/
def fadeLevels (fs : Vector Fade 4) : Vector Nat 4 := fs.map Fade.level

end Sys2Proof.Machine
end

