-- ==== Sys2Proof/Machine/Mixer.lean ====
section
/-! DEFINITION. The mixer (spec/05): the line context, the key level, the mix, the limiting, the index pipeline and the
output stage, the keyer, and the reply to QUERY MIXER. -/

namespace Sys2Proof.Machine

/-! ## The line context (R85, R88) -/

/-- The source of a line in a lock state (R88). -/
def LockState.source : LockState → Source
  | .acquire => .store
  | .locked => .store
  | _ => .matte

/-- A generated line start (R85): the context moves back, a new one is loaded, and the pixels still waiting belong to the
line before (R89). -/
def Mixer.loadContext (m : Mixer) : Mixer :=
  { m with
    prevCtx := m.ctx
    ctx := ⟨m.table, m.matte, m.policy, m.recorded.source⟩
    edits := false
    pipeline := m.pipeline.map fun p => { p with before := true } }

/-! ## The key level (R92, R93, R94) -/

/-- Whether a window contains pixel x of a line numbered g (R92). -/
def Window.contains (w : Window) (g x : Nat) : Bool :=
  decide (w.top ≤ g) && decide (g ≤ w.bottom) && decide (w.left ≤ x) && decide (x ≤ w.right)

/-- The lowest-numbered enabled window that contains the pixel. -/
def Pixel.window (p : Pixel) : Option Window := p.windows.toList.find? fun w => w.enabled && w.contains p.key.line p.x

/-- The level λ of a window (R93). -/
def LevelSource.level (levels : Vector Nat 4) : LevelSource → Nat
  | .fixed l => l
  | .gen g => alphaOf levels[g]

/-- The level of a class. -/
def ColourClass.apply (level : Nat) : ColourClass → Nat
  | .clear => 0
  | .solid => level
  | .half => level / 2

/-- α of a pixel, and the mode of the window that gave it (R92, R94). -/
def Pixel.keyLevel (p : Pixel) (ctx : LineContext) (cls : ColourClass) : Nat × MixMode :=
  if !p.keyer then (0, .replace)
  else if ctx.source = .matte ∧ ctx.policy = .full then (256, .replace)
  else if ctx.source = .matte ∧ ctx.policy = .hide then (0, .replace)
  else
    match p.window with
    | none => (0, .replace)
    | some w => (cls.apply (w.level.level p.levels), w.mode)

/-! ## The mix (R95, R96, R97) -/

/-- A component keyed (R95). -/
def mixReplace (v c : Byte) (α : Nat) : Int := v.toNat + (((c.toNat : Int) - v.toNat) * α + 128) / 256

/-- The luminance brightened (R96). -/
def mixAdd (v c : Byte) (α : Nat) : Int := v.toNat + (((c.toNat : Int) - 16) * α + 128) / 256

/-- The three components before limiting. -/
def mixSample (v c : Sample) (α : Nat) : MixMode → Int × Int × Int
  | .replace => (mixReplace v.y c.y α, mixReplace v.cb c.cb α, mixReplace v.cr c.cr α)
  | .add => (mixAdd v.y c.y α, mixReplace v.cb c.cb α, mixReplace v.cr c.cr α)

/-- A formed pixel limited to the legal ranges, and whether limiting changed a component (R97). -/
def limitSample (raw : Int × Int × Int) : Sample × Bool :=
  let y := clampInt 16 235 raw.1
  let cb := clampInt 16 240 raw.2.1
  let cr := clampInt 16 240 raw.2.2
  (⟨BitVec.ofInt 8 y, BitVec.ofInt 8 cb, BitVec.ofInt 8 cr⟩,
    decide (y ≠ raw.1) || decide (cb ≠ raw.2.1) || decide (cr ≠ raw.2.2))

/-- The video value of a pixel (R88): the store output, or the matte of the line context. -/
def Pixel.videoIn (p : Pixel) (ctx : LineContext) : Sample :=
  match ctx.source with
  | .store => p.video
  | .matte => ctx.matte

/-- A pixel formed with its context and its index: the output, and the kind of a limiting (R92 to R97). -/
def Pixel.form (p : Pixel) (ctx : LineContext) (index : BitVec 4) : Sample × Option ClipKind :=
  let entry := ctx.table[index.toFin]
  let key := p.keyLevel ctx entry.cls
  let out := limitSample (mixSample (p.videoIn ctx) entry.colour key.1 key.2)
  (out.1, if out.2 then some (if 0 < key.1 then .key else .video) else none)

/-! ## The pixel clock (R89, R90, R91) -/

/-- The context that serves a pixel (R89). -/
def Mixer.contextOf (m : Mixer) (p : Pixel) : LineContext := if p.before then m.prevCtx else m.ctx

/-- The index pairs with the oldest pixel, when more than latency pixels wait (R89, R91); a pixel limited sets the last-clip
record, and the answer says whether CLIP is latched (R97). With no pixel to pair the output is black. -/
def Mixer.pair (m : Mixer) (latency : Nat) (index : BitVec 4) : Mixer × Bool :=
  match m.pipeline with
  | p :: rest =>
    if latency ≤ rest.length then
      let f := p.form (m.contextOf p) index
      let m1 := { m with pipeline := rest, output := { m.output with pixel := f.1 } }
      match f.2 with
      | some kind => ({ m1 with clip := some ⟨kind, p.key, p.count⟩ }, true)
      | none => (m1, false)
    else ({ m with output := { m.output with pixel := Sample.black } }, false)
  | [] => (m, false)

/-- The output stage delays the generated syncs by latency pixel clocks (R91; log 4). -/
def Mixer.delaySyncs (m : Mixer) (latency : Nat) (lineSync fieldSync : Bool) : Mixer :=
  let line := m.syncDelay ++ [(lineSync, fieldSync)]
  match line.drop (line.length - 1 - latency) with
  | (l, f) :: rest =>
    if latency ≤ rest.length then { m with syncDelay := rest, output := { m.output with lineSync := l, fieldSync := f } }
    else { m with syncDelay := line }
  | [] => { m with syncDelay := line }

/-- One pixel clock: the pixel joins, the index is paired, the syncs move on. -/
def Mixer.clock (m : Mixer) (latency : Nat) (p : Pixel) (index : BitVec 4) (lineSync fieldSync : Bool) : Mixer × Bool :=
  ({ m with pipeline := m.pipeline ++ [p] }.delaySyncs latency lineSync fieldSync).pair latency index

/-- The restart carry discards the waiting pixels (R91; log 20). -/
def Mixer.discard (m : Mixer) : Mixer := { m with pipeline := [] }

/-! ## The keyer (R98, R99) -/

/-- A write of a keyer value (R98). -/
def Mixer.writeKeyer (m : Mixer) (v : Bool) : Mixer := { m with keyerNext := if v = m.keyer then none else some v }

/-- A generated field start applies the pending keyer state and posts KEYER_CHANGED (R99). -/
def Mixer.applyKeyer (m : Mixer) : Mixer × List Post :=
  match m.keyerNext with
  | none => (m, [])
  | some v =>
    ({ m with keyer := v, keyerNext := none },
      [⟨queueCue, .keyerChanged, BitVec.ofNat 8 (boolCode v), BitVec.ofNat 16 (boolCode m.keyer)⟩])

/-! ## Edits (R84, R86, R87) -/

/-- A stored colour entry takes a value; a change sets edits awaiting. -/
def Mixer.editColour (m : Mixer) (i : Fin 16) (e : ColourEntry) : Mixer :=
  if m.table[i] = e then m else { m with table := m.table.set i e, edits := true }

def Mixer.editMatte (m : Mixer) (c : Sample) : Mixer := if m.matte = c then m else { m with matte := c, edits := true }

def Mixer.editPolicy (m : Mixer) (p : LossPolicy) : Mixer := if m.policy = p then m else { m with policy := p, edits := true }

/-! ## The mixer record (R100, Table 10-G) -/

def ColourEntry.bytes (e : ColourEntry) : List Byte := sampleBytes e.colour ++ bytesOf 1 e.cls.code

/-- The pending keyer state, 255 for none (Table 10-H). -/
def keyerNextCode (k : Option Bool) : Nat := indexCode (k.map boolCode)

def ClipKind.code : ClipKind → Nat
  | .video => 1
  | .key => 2

def clipBytes : Option ClipRecord → List Byte
  | none => bytesOf 6 0
  | some r => bytesOf 1 r.kind.code ++ bytesOf 2 r.key.code ++ bytesOf 3 r.count.toNat

def Mixer.bytes (m : Mixer) (latency : Nat) : List Byte :=
  m.table.toList.flatMap ColourEntry.bytes ++ sampleBytes m.matte ++ bytesOf 1 m.policy.code ++ bytesOf 1 (boolCode m.edits) ++
  bytesOf 1 m.ctx.source.code ++ bytesOf 1 (boolCode m.keyer) ++ bytesOf 1 (keyerNextCode m.keyerNext) ++ bytesOf 1 latency ++
  clipBytes m.clip

end Sys2Proof.Machine
end

