-- ==== Sys2Proof/Machine/Cues.lean ====
section
/-! DEFINITION. The walk of the cue unit at a generated field start (spec/08). The walk answers its reports to its caller,
which places them among those of the other units. -/

namespace Sys2Proof.Machine

/-- A cue fires at field count F when ((F XOR T) AND M) = 0 (R140). -/
def CueContent.fires (c : CueContent) (f : Count) : Bool := ((f ^^^ c.trigger) &&& c.mask) == 0

/-- CUE_SKIPPED with its reason and detail (R149). -/
def skippedPost (i : Fin 64) (reason detail : Nat) : Post :=
  ⟨queueCue, .cueSkipped, BitVec.ofNat 8 i.val, BitVec.ofNat 16 (256 * reason + detail)⟩

/-- A SWAP action: a swap write, skipped when a swap is pending (R143). -/
def State.actSwap (s : State) (i : Fin 64) (copy : Bool) : State × List Post :=
  match s.banks.writeSwap copy with
  | some b => (s.setBanks b, [])
  | none => (s, [skippedPost i 1 0])

/-- An ARM action: a held target moves to the tail of ARMED, any other is skipped (R147). -/
def State.actArm (s : State) (i target : Fin 64) : State × List Post :=
  if s.cues.listOf target = .held then (s.setCues (s.cues.move target .armed .tail), [])
  else (s, [skippedPost i 2 target.val])

/-- The action of a firing cue (R143 to R148). -/
def State.act (s : State) (i : Fin 64) : CueAction → State × List Post
  | .swap copy => s.actSwap i copy
  | .fade g p => (s.setFades (s.fades.set g ((s.fades[g]).load p).marked), [])
  | .fadeHold g => (s.setFades (s.fades.set g (s.fades[g]).hold.marked), [])
  | .keyer v => (s.setMixer (s.mixer.writeKeyer v), [])
  | .arm target => s.actArm i target
  | .mark => (s, [])

/-- CUE_FIRED to the queue of the route (R141, step 3). -/
def firedPosts (i : Fin 64) (c : CueContent) : List Post :=
  match c.route with
  | some q => [⟨q, .cueFired, BitVec.ofNat 8 i.val, c.tag⟩]
  | none => []

/-- The pending flag of a cue is set (R134). -/
def CuePool.setFired (p : CuePool) (i : Fin 64) : CuePool := p.setRecord i { p.records[i] with pending := true }

/-- The disposition of a cue that fired (R142). -/
def CuePool.dispose (p : CuePool) (i : Fin 64) (repeats : Bool) : CuePool := if repeats then p else p.move i .done .tail

/-- A cue fires: action, pending flag, report, disposition, in this order (R141). -/
def State.fire (s : State) (i : Fin 64) : State × List Post :=
  let c := (s.cues.records[i]).content
  let r := s.act i c.action
  (r.1.setCues ((r.1.cues.setFired i).dispose i c.repeats), r.2 ++ firedPosts i c)

/-- One visit of the walk (R139, R140). -/
def State.visit (f : Count) (a : State × List Post) (i : Fin 64) : State × List Post :=
  if (a.1.cues.records[i]).content.fires f then
    let r := a.1.fire i
    (r.1, a.2 ++ r.2)
  else a

/-- The walk: every cue that stood on ARMED when it began, each once, in the order they then stood (R138, R139). -/
def State.walk (s : State) (f : Count) : State × List Post := s.cues.armed.foldl (State.visit f) (s, [])

end Sys2Proof.Machine
end

