-- ==== Sys2Proof/Machine/Timing.lean ====
section
/-! DEFINITION. The timing generator and the oscillator (spec/03, sections 3.1, 3.4 and 3.5; spec/02, section 2.1): the
position in the frame, the counts that a pixel clock, a line start and a field start move, the timing restart and the timing
record. The commands of the clock stand in Machine/Clock.lean. -/

namespace Sys2Proof.Machine

/-! ## The position in the frame (R42, R43) -/

/-- Whether the next pixel clock wraps the pixel counter. -/
def Timing.wraps (t : Timing) : Bool := decide (t.lpix ≤ t.pixel + 1)

/-- Whether the next pixel clock, in interlaced timing, brings the pixel counter to mid-line. -/
def Timing.reachesMidLine (t : Timing) : Bool := decide (t.mode = .interlaced) && decide (t.pixel + 1 = t.lpix / 2)

/-- Whether the line in progress is the last line of its field. -/
def Timing.lastLine (t : Timing) : Bool := decide (t.key.line = fieldLength t.standard t.key.parity)

/-- The parity of the natural field start at the next line start, or none (R43). -/
def Timing.naturalStart (t : Timing) : Option Parity :=
  if !t.newField && t.lastLine then some t.key.parity.other else none

/-- The key that the natural sequence gives the next line start (R42, R60). -/
def Timing.naturalKey (t : Timing) : Key :=
  match t.naturalStart with
  | some p => ⟨p, 1⟩
  | none => if t.newField then ⟨t.parity, 1⟩ else ⟨t.parity, t.key.line + 1⟩

/-- Whether the next pixel clock is the natural parity-2 field start at mid-line (R43). -/
def Timing.naturalMidLine (t : Timing) : Bool :=
  t.reachesMidLine && !t.newField && t.lastLine && decide (t.key.parity = .one)

/-- The pending jam check whose countdown completes at the next pixel clock (R60). -/
def Timing.jamDue (t : Timing) : Option Jam :=
  match t.jam with
  | none => none
  | some j =>
    if j.toCome = 1 ∧ (if j.parity = .two ∧ t.mode = .interlaced then t.reachesMidLine else t.wraps) = true then some j
    else none

/-- What a tick is, given the state it comes on: exactly one command fits (log 7). -/
inductive TickKind where
  | measurement | restartCarry | jamCheck | lineStart | midLine | lineSyncRelease | pixel
deriving DecidableEq, Repr

/-- Whether the tick carries (R23). -/
def State.carries (s : State) : Bool := decide (2 ^ 32 ≤ s.timing.acc.toNat + s.engine.k)

/-- The kind of the next tick (R23, R42, R43, R46, R60, R64). -/
def State.tickKind (s : State) : TickKind :=
  if !s.carries then .measurement
  else if s.timing.restartPending then .restartCarry
  else if s.timing.jamDue.isSome then .jamCheck
  else if s.timing.wraps then .lineStart
  else if s.timing.naturalMidLine then .midLine
  else if s.timing.lineSync = some 1 then .lineSyncRelease
  else .pixel

/-! ## One pixel clock and the counts it moves -/

/-- A countdown one lower, ended at 0. -/
def countDown : Option Nat → Option Nat
  | none => none
  | some n => if n ≤ 1 then none else some (n - 1)

/-- A pixel clock (R42, R46). -/
def Timing.advancePixel (t : Timing) : Timing :=
  { t with pixel := if t.wraps then 0 else t.pixel + 1, lineSync := countDown t.lineSync }

/-- A line start counted toward a pending jam countdown (R42, R59). -/
def Jam.lineStart (j : Jam) : Option Jam := if j.toCome ≤ 1 then none else some { j with toCome := j.toCome - 1 }

/-- What a line start releases and counts before a field start at the same place is taken (R46, R59). -/
def Timing.beginLine (t : Timing) : Timing :=
  { t with frameRestart := false, fieldSync := countDown t.fieldSync, jam := t.jam.bind Jam.lineStart }

/-- A field start in the timing generator (R44, R46). -/
def Timing.startField (t : Timing) (p : Parity) (cause : Cause) : Timing :=
  { t with
    parity := p
    count := t.load.getD (t.count + 1)
    load := none
    fieldSync := some 3
    frameRestart := t.frameRestart || decide (cause ≠ .natural)
    newField := true }

/-- A line start in the timing generator, after a field start at the same place (R42, R46). -/
def Timing.startLine (t : Timing) : Timing :=
  { t with
    key := if t.newField then ⟨t.parity, 1⟩ else ⟨t.parity, t.key.line + 1⟩
    newField := false
    lineSync := some (t.lpix / 16) }

/-- The stamp of a line start at this tick: the reading of the stamp counter less floor(16 × A_after / K), where K is the
increment that served the tick (R24). -/
def State.lineStamp (s : State) : Stamp :=
  s.stamp - BitVec.ofNat 24 (16 * (s.timing.acc.toNat + s.engine.k - 2 ^ 32) / s.engine.k)

/-- The accumulator after the tick, a carry dropped (R23). -/
def State.accumulate (s : State) : State :=
  s.setTiming { s.timing with acc := BitVec.ofNat 32 (s.timing.acc.toNat + s.engine.k) }

/-! ## The timing restart (R64) -/

/-- A timing restart: the lock engine's part with the store and the mixer behind it, the classifier's part, and the restart
carry awaited; the reports of the two units stand in an open order (log 13). -/
def State.timingRestart (s : State) (stdChanged : Bool) : State :=
  let e := s.engineRestart
  let c := e.1.classifier.restart e.1.timing.standard stdChanged
  let s1 := (e.1.setClassifier c.1).setTiming { e.1.timing with restartPending := true }
  s1.postWork none [(.engine, e.2), (.classifier, c.2)]

/-! ## The timing record (R47, Table 10-G) -/

def Jam.bytes : Option Jam → List Byte
  | none => bytesOf 3 0
  | some j => bytesOf 1 1 ++ bytesOf 1 j.parity.code ++ bytesOf 1 j.toCome

def Timing.bytes (t : Timing) : List Byte :=
  bytesOf 1 t.standard.code ++ bytesOf 2 t.lpix ++ bytesOf 1 t.mode.code ++ bytesOf 1 t.latency ++ bytesOf 1 t.parity.code ++
  bytesOf 1 t.key.parity.code ++ bytesOf 2 t.key.line ++ bytesOf 2 t.pixel ++ bytesOf 3 t.count.toNat ++
  bytesOf 1 (boolCode t.load.isSome) ++ bytesOf 3 (t.load.getD 0).toNat ++ Jam.bytes t.jam

end Sys2Proof.Machine
end

