-- ==== Sys2Proof/Machine/Link.lean ====
section
/-! DEFINITION. The link controller (spec/10): reception, the closed period, the execution of a request, and the commands of
power and of the link that are not requests. -/

namespace Sys2Proof.Machine

/-! ## Answers (R172, R173) -/

/-- What a request leaves: the state, the status, and the results of an OK reply. -/
structure Answer where
  state   : State
  status  : Status
  results : List Byte
deriving DecidableEq, Repr

/-- A refusal: the status alone, and nothing changed (R173). -/
def State.refuse (s : State) (st : Status) : Answer := ⟨s, st, []⟩

/-- An OK answer with its results. -/
def State.okay (s : State) (results : List Byte) : Answer := ⟨s, .ok, results⟩

/-- The body of the reply (Table 10-B). -/
def Answer.body (kind : Byte) (a : Answer) : List Byte := kind :: a.status.code :: a.results

/-! ## The closed period (R171) -/

/-- The receiver closes for the reply of the given kind and body: the partial frame and the timer are gone, the
closed-period record starts, and the reply frame is on its way (R167, R168, R171). -/
def State.close (s : State) (kind : Byte) (body : List Byte) : State :=
  s.setLink { s.link with
    rx := .closed, frame := none, timer := none, closedKind := kind, closedCount := 0, reply := replyFrame body }

/-- Bytes that arrive while CLOSED are counted, up to 65,535; the first of a closed period latches LINK_FAULT (R171). -/
def State.discardBytes (s : State) (n : Nat) : State :=
  let s1 := s.setLink { s.link with closedCount := min 65535 (s.link.closedCount + n) }
  if s.link.closedCount = 0 then s1.latch condLinkFault else s1

/-- A report of the FAULT queue (R178). -/
def faultPost (kind : ReportKind) (argA argB : Nat) : Post := ⟨queueFault, kind, BitVec.ofNat 8 argA, BitVec.ofNat 16 argB⟩

/-! ## Requests (R169, R172) -/

/-- The parameter bytes that a body has room for after its kind byte (R168). -/
def paramRoom : Nat := 95

/-- Whether the frame of a request completes now: its check byte arrives for the partial frame, or the whole frame arrives
in HUNTING (log 9). -/
def Link.completes (l : Link) (kind : Byte) (params : List Byte) : Bool :=
  match l.rx with
  | .hunting => true
  | .awaitCheck => decide (l.frame = some ⟨BitVec.ofNat 8 (params.length + 1), kind :: params⟩)
  | _ => false

/-- A good request frame: executed at once, and the receiver closed for its reply (R172). The frame of a request that
arrives while CLOSED is discarded byte by byte (R171; log 9). None where its bytes make no good frame. -/
def State.takeFrame (s : State) (kind : Byte) (params : List Byte) (handler : State → Answer) : Option State :=
  if params.length ≤ paramRoom then
    if s.link.completes kind params then
      let a := handler s
      some (a.state.close kind (a.body kind))
    else if s.link.rx = .closed then some (s.discardBytes (params.length + 4))
    else none
  else none

/-- A request command: the frame is taken as one event, and the report unit judges what it leaves. -/
def State.request (s : State) (kind : Byte) (params : List Byte) (handler : State → Answer) : Host.Outcome State Fault Refusal :=
  match s.takeFrame kind params handler with
  | some t => .next t.settle
  | none => .next s

/-! ## Bytes -/

/-- The byte-gap time: 25 ms in fine units (R170; spec/00, Table 4-A; log 24). -/
def byteGap : Stamp := 9600000

/-- The timer restarted (R168, R170). -/
def State.gapFromNow (s : State) : Option Stamp := some (s.stamp + byteGap)

/-- Whether the running timer has reached its expiry time by the stamp counter: 25 ms or more have gone since the byte that
started it (R170), counted modulo 2^24 fu (log 24). -/
def State.gapIsOver (s : State) : Bool :=
  match s.link.timer with
  | some expiry => decide (byteGap ≤ s.stamp - (expiry - byteGap))
  | none => false

/-- Whether a length byte is possible (R168). -/
def lengthOk (n : Byte) : Bool := decide (1 ≤ n.toNat) && decide (n.toNat ≤ 96)

/-- A body byte joins the partial frame; the last one leads to AWAIT_CHECK (R168). -/
def Frame.add (f : Frame) (b : Byte) : Frame := { f with body := f.body ++ [b] }

/-- RECEIVED_BYTE: a byte that neither ends nor completes a frame, the receiver not being CLOSED (R168, R170). -/
def execReceivedByte (b : Byte) (s : State) : Host.Outcome State Fault Refusal :=
  match s.link.rx, s.link.frame with
  | .hunting, _ =>
    if b = 0xD4 then .next (s.setLink { s.link with rx := .awaitLength, frame := none, timer := s.gapFromNow }) else .next s
  | .awaitLength, _ =>
    if lengthOk b then .next (s.setLink { s.link with rx := .inBody, frame := some ⟨b, []⟩, timer := s.gapFromNow })
    else .next s
  | .inBody, some f =>
    let rx : RxState := if f.length.toNat ≤ (f.add b).body.length then .awaitCheck else .inBody
    .next (s.setLink { s.link with rx := rx, frame := some (f.add b), timer := s.gapFromNow })
  | _, _ => .next s

/-- BAD_LENGTH: a length byte of 0 or above 96 in AWAIT_LENGTH (R168, R178). -/
def execBadLength (n : Byte) (s : State) : Host.Outcome State Fault Refusal :=
  if s.link.rx = .awaitLength ∧ lengthOk n = false then
    .next ((s.post (faultPost .badFrame 1 n.toNat)).close 0 [0, Status.badFrame.code]).settle
  else .next s

/-- The sum of a completed frame, modulo 256 (R167). -/
def Frame.sum (f : Frame) (check : Byte) : Byte := f.body.foldl (· + ·) f.length + check

/-- BAD_CHECK: a check byte that completes a frame with a sum other than 0 (R169, R178). -/
def execBadCheck (check : Byte) (s : State) : Host.Outcome State Fault Refusal :=
  match s.link.rx, s.link.frame with
  | .awaitCheck, some f =>
    if f.sum check = 0 then .next s
    else
      let kind := f.body.headD 0
      .next ((s.post (faultPost .badFrame 2 (256 * kind.toNat + f.length.toNat))).close kind [kind, Status.badFrame.code]).settle
  | _, _ => .next s

/-- The stage at which a partial frame stands and the bytes received after its start byte (R170). -/
def Link.stage (l : Link) : Option (Nat × Nat) :=
  match l.rx, l.frame with
  | .awaitLength, _ => some (1, 0)
  | .inBody, some f => some (2, 1 + f.body.length)
  | .awaitCheck, some f => some (3, 1 + f.body.length)
  | _, _ => none

/-- The partial frame discarded, reported with the stage at which it stopped, and LINK_FAULT latched (R170, R178). -/
def State.cutFrame (s : State) : State :=
  match s.link.stage with
  | some (stage, received) =>
    let s1 := s.setLink { s.link with rx := .hunting, frame := none, timer := none }
    ((s1.post (faultPost .frameTimeout stage received)).latch condLinkFault).settle
  | none => s

/-- FRAME_TIMEOUT: the byte-gap timer expires, which it does 25 ms after the last byte and no sooner (R170). -/
def execFrameTimeout (s : State) : Host.Outcome State Fault Refusal :=
  if s.gapIsOver then .next s.cutFrame else .next s

/-- CLOSED_BYTE: a byte received while CLOSED, discarded and counted (R171). -/
def execClosedByte (_b : Byte) (s : State) : Host.Outcome State Fault Refusal :=
  if s.link.rx = .closed then .next (s.discardBytes 1).settle else .next s

/-- REPLY_END: the last byte of a reply other than RESTART's OK has been sent; the receiver opens, and OVERLAP is posted when
bytes arrived (R171, R178). -/
def execReplyEnd (s : State) : Host.Outcome State Fault Refusal :=
  if s.link.rx = .closed ∧ s.link.restartAwaits = false then
    let s1 := s.setLink { s.link with rx := .hunting, reply := [] }
    if s.link.closedCount = 0 then .next s1.settle
    else .next (s1.post (faultPost .overlap s.link.closedKind.toNat s.link.closedCount)).settle
  else .next s

/-- RESTART_TAKES_EFFECT: the last byte of the reply to RESTART has been sent; every unit takes its power-on state, and the
strap rate is kept (R176). The stamp counter and a pulse in progress are no unit's state that a chapter returns (log 1, 5). -/
def execRestartTakesEffect (s : State) : Host.Outcome State Fault Refusal :=
  if s.link.rx = .closed ∧ s.link.restartAwaits = true then
    .next { State.reset with
      link := { Link.reset with rate := s.link.rate }, stamp := s.stamp, pulse := s.pulse, draw := s.draw,
      pending := s.pending }
  else .next s

/-! ## Power (R166) -/

/-- The rate that the straps name (R166). -/
def strapRate (rate0 rate1 : Bool) : StrapRate :=
  match rate0, rate1 with
  | false, false => .b19200
  | true, false => .b38400
  | false, true => .b57600
  | true, true => .b115200

/-- POWER_ON: every unit takes its power-on state, and the straps fix the rate (R41, R166). -/
def execPowerOn (rate0 rate1 : Bool) (s : State) : Host.Outcome State Fault Refusal :=
  .next { State.reset with
    link := { Link.reset with rate := strapRate rate0 rate1 }, draw := s.draw, pending := s.pending }

/-! ## The requests of the link itself -/

/-- UNKNOWN_REQUEST: a kind byte that names no request is answered UNKNOWN (R173). -/
def execUnknownRequest (kind : Byte) (params : List Byte) (s : State) : Host.Outcome State Fault Refusal :=
  if requestKinds.contains kind then .next s else s.request kind params fun t => t.refuse .unknown

/-- ECHO returns its parameters (R175). -/
def execEcho (params : List Byte) (s : State) : Host.Outcome State Fault Refusal :=
  s.request 0x01 params fun t => t.okay params

/-- RESTART is answered OK, and takes effect when its reply has been sent (R176). -/
def answerRestart (params : List Byte) (s : State) : Answer :=
  match params with
  | [] => (s.setLink { s.link with restartAwaits := true }).okay []
  | _ :: _ => s.refuse .badParam

/-- RESTART. -/
def execRestart (params : List Byte) (s : State) : Host.Outcome State Fault Refusal :=
  s.request 0x02 params (answerRestart params)

end Sys2Proof.Machine
end

