-- ==== Sys2Proof/Machine/TitleRequests.lean ====
section
/-! DEFINITION. The requests of the mixer, the window banks and the fade generators: Table 10-F from SET COLOUR to QUERY FADE
(spec/05, spec/06). -/

namespace Sys2Proof.Machine

/-! ## The mixer (R84, R86, R87, R98, R100) -/

def answerSetColour (params : List Byte) (s : State) : Answer :=
  match fields [1, 1, 1, 1, 1] params with
  | some [i, y, cb, cr, c] =>
    match indexBelow 16 i, colourClassOf c with
    | some index, some cls =>
      let entry : ColourEntry := ⟨legalColour y cb cr, cls⟩
      (s.setMixer (s.mixer.editColour index entry)).okay (bytesOf 1 index.val ++ entry.bytes)
    | _, _ => s.refuse .badParam
  | _ => s.refuse .badParam

/-- SET_COLOUR. -/
def execSetColour (params : List Byte) (s : State) : Host.Outcome State Fault Refusal :=
  s.request 0x30 params (answerSetColour params)

def answerSetMatte (params : List Byte) (s : State) : Answer :=
  match fields [1, 1, 1] params with
  | some [y, cb, cr] =>
    let c := legalColour y cb cr
    (s.setMixer (s.mixer.editMatte c)).okay (sampleBytes c)
  | _ => s.refuse .badParam

/-- SET_MATTE. -/
def execSetMatte (params : List Byte) (s : State) : Host.Outcome State Fault Refusal :=
  s.request 0x31 params (answerSetMatte params)

def answerSetLossPolicy (params : List Byte) (s : State) : Answer :=
  match fields [1] params with
  | some [v] =>
    match lossPolicyOf v with
    | none => s.refuse .badParam
    | some p => (s.setMixer (s.mixer.editPolicy p)).okay (bytesOf 1 p.code)
  | _ => s.refuse .badParam

/-- SET_LOSS_POLICY. -/
def execSetLossPolicy (params : List Byte) (s : State) : Host.Outcome State Fault Refusal :=
  s.request 0x32 params (answerSetLossPolicy params)

def answerKeyer (params : List Byte) (s : State) : Answer :=
  match fields [1] params with
  | some [v] =>
    match flagOf v with
    | none => s.refuse .badParam
    | some on =>
      let m := s.mixer.writeKeyer on
      (s.setMixer m).okay (bytesOf 1 (boolCode m.keyer) ++ bytesOf 1 (keyerNextCode m.keyerNext))
  | _ => s.refuse .badParam

/-- KEYER. -/
def execKeyer (params : List Byte) (s : State) : Host.Outcome State Fault Refusal :=
  s.request 0x33 params (answerKeyer params)

def answerQueryMixer (params : List Byte) (s : State) : Answer :=
  match params with
  | [] => s.okay (s.mixer.bytes s.timing.latency)
  | _ :: _ => s.refuse .badParam

/-- QUERY_MIXER. -/
def execQueryMixer (params : List Byte) (s : State) : Host.Outcome State Fault Refusal :=
  s.request 0x38 params (answerQueryMixer params)

/-! ## The window banks (R103, R104, R106, R110) -/

/-- A window record from its fields: none is the refusal of R103, step 1; the numbers are clamped as step 3 gives. -/
def windowOf (enabled top bottom left right mode kind value : Nat) : Option Window :=
  match flagOf enabled, mixModeOf mode, levelSourceOf kind value with
  | some e, some m, some l =>
    some ⟨e, clampNat 1 313 top, clampNat 1 313 bottom, clampNat 0 2047 left, clampNat 0 2047 right, m, l⟩
  | _, _, _ => none

/-- The edit of a window, refused when the bank is live or a swap is pending (R103, steps 2 and 4; R104). -/
def State.editWindow (s : State) (n : BankName) (i : Fin 8) (w : Window) : Answer :=
  if s.banks.editRefused n then s.refuse .wrongState else (s.setBanks (s.banks.edit n i w)).okay w.bytes

def answerWindowSet (params : List Byte) (s : State) : Answer :=
  match fields [1, 1, 1, 2, 2, 2, 2, 1, 1, 2] params with
  | some [b, i, e, t, bo, l, r, m, k, v] =>
    match bankOf b, indexBelow 8 i, windowOf e t bo l r m k v with
    | some bank, some index, some w => s.editWindow bank index w
    | _, _, _ => s.refuse .badParam
  | _ => s.refuse .badParam

/-- WINDOW_SET. -/
def execWindowSet (params : List Byte) (s : State) : Host.Outcome State Fault Refusal :=
  s.request 0x34 params (answerWindowSet params)

def answerWindowClear (params : List Byte) (s : State) : Answer :=
  match fields [1, 1] params with
  | some [b, i] =>
    match bankOf b, indexBelow 8 i with
    | some bank, some index => s.editWindow bank index Window.cleared
    | _, _ => s.refuse .badParam
  | _ => s.refuse .badParam

/-- WINDOW_CLEAR. -/
def execWindowClear (params : List Byte) (s : State) : Host.Outcome State Fault Refusal :=
  s.request 0x35 params (answerWindowClear params)

def answerBankSwap (params : List Byte) (s : State) : Answer :=
  match fields [1] params with
  | some [v] =>
    match flagOf v with
    | none => s.refuse .badParam
    | some copy =>
      match s.banks.writeSwap copy with
      | none => s.refuse .busy
      | some b => (s.setBanks b).okay (bytesOf 1 b.live.code ++ bytesOf 1 (boolCode b.swap.isSome))
  | _ => s.refuse .badParam

/-- BANK_SWAP. -/
def execBankSwap (params : List Byte) (s : State) : Host.Outcome State Fault Refusal :=
  s.request 0x36 params (answerBankSwap params)

def answerQueryBank (params : List Byte) (s : State) : Answer :=
  match fields [1] params with
  | some [v] =>
    match bankOf v with
    | none => s.refuse .badParam
    | some bank => s.okay (s.banks.bytes bank)
  | _ => s.refuse .badParam

/-- QUERY_BANK. -/
def execQueryBank (params : List Byte) (s : State) : Host.Outcome State Fault Refusal :=
  s.request 0x37 params (answerQueryBank params)

/-! ## The fade generators (R116, R117, R121) -/

/-- A generator takes a state, and the reply shows it. -/
def State.putFade (s : State) (g : Fin 4) (f : Fade) : Answer := (s.setFades (s.fades.set g f)).okay f.bytes

def answerFadeLoad (params : List Byte) (s : State) : Answer :=
  match fields [1, 3, 2, 3, 3, 1] params with
  | some [g, l, st, lo, hi, k] =>
    match loadOf g l st lo hi k with
    | none => s.refuse .badParam
    | some (gen, p) => s.putFade gen ((s.fades[gen]).load p)
  | _ => s.refuse .badParam

/-- FADE_LOAD. -/
def execFadeLoad (params : List Byte) (s : State) : Host.Outcome State Fault Refusal :=
  s.request 0x40 params (answerFadeLoad params)

/-- The generator that a request of one index names. -/
def generatorOf (params : List Byte) : Option (Fin 4) :=
  match fields [1] params with
  | some [v] => indexBelow 4 v
  | _ => none

def answerFadeHold (params : List Byte) (s : State) : Answer :=
  match generatorOf params with
  | some g => s.putFade g (s.fades[g]).hold
  | none => s.refuse .badParam

/-- FADE_HOLD. -/
def execFadeHold (params : List Byte) (s : State) : Host.Outcome State Fault Refusal :=
  s.request 0x41 params (answerFadeHold params)

def answerFadeResume (params : List Byte) (s : State) : Answer :=
  match generatorOf params with
  | some g => s.putFade g (s.fades[g]).resume
  | none => s.refuse .badParam

/-- FADE_RESUME. -/
def execFadeResume (params : List Byte) (s : State) : Host.Outcome State Fault Refusal :=
  s.request 0x42 params (answerFadeResume params)

def answerQueryFade (params : List Byte) (s : State) : Answer :=
  match generatorOf params with
  | some g => s.okay (s.fades[g]).bytes
  | none => s.refuse .badParam

/-- QUERY_FADE. -/
def execQueryFade (params : List Byte) (s : State) : Host.Outcome State Fault Refusal :=
  s.request 0x43 params (answerQueryFade params)

end Sys2Proof.Machine
end

