-- ==== Sys2Proof/Machine/Clock.lean ====
section
/-! DEFINITION. The seven commands of the 24 MHz clock (spec/03, sections 3.1, 3.4 and 3.5): the generated field start with
the work it brings about and the request that may execute within it, the generated line start, the jam check, and the pixel of
a carry. -/

namespace Sys2Proof.Machine

/-! ## A generated field start (R44) -/

/-- The requests of the units that a walk's actions reach besides the cue unit: the mixer's keyer, the window banks and the
fade generators. Executed between the field start's performance and its walk they find a state that neither an earlier nor
a later request finds (R99, R105, R108, R119). -/
def betweenAnswer (kind : Byte) (params : List Byte) : Option (State → Answer) :=
  if kind = 0x33 then some (answerKeyer params)
  else if kind = 0x34 then some (answerWindowSet params)
  else if kind = 0x35 then some (answerWindowClear params)
  else if kind = 0x36 then some (answerBankSwap params)
  else if kind = 0x37 then some (answerQueryBank params)
  else if kind = 0x38 then some (answerQueryMixer params)
  else if kind = 0x40 then some (answerFadeLoad params)
  else if kind = 0x41 then some (answerFadeHold params)
  else if kind = 0x42 then some (answerFadeResume params)
  else if kind = 0x43 then some (answerQueryFade params)
  else none

/-- The request within a field start, as a good frame with the given body (log 14); none, or a body that is none of these
requests, changes nothing. -/
def State.takeBetween (s : State) : List Byte → State
  | [] => s
  | kind :: params =>
    match betweenAnswer kind params with
    | some handler => (s.takeFrame kind params handler).getD s
    | none => s

/-- The unit that executes a request within a field start after its own performance there: the mixer or the bank unit. -/
def betweenUnit (kind : Byte) : Option Work :=
  if kind = 0x33 ∨ kind = 0x38 then some .mixer
  else if kind = 0x34 ∨ kind = 0x35 ∨ kind = 0x36 ∨ kind = 0x37 then some .bank
  else none

/-- The unit whose performance the request within a field start shows to come before the walk, if one is executed (R99, R108). -/
def State.orderedBy (s : State) : List Byte → Option Work
  | [] => none
  | kind :: params => if params.length ≤ paramRoom ∧ s.link.completes kind params then betweenUnit kind else none

/-- The pieces of work of a field start with their reports. -/
def fieldWork (check bank mixer engine walk : List Post) (fs : Vector Fade 4) : List (Work × List Post) :=
  [(.check, check), (.bank, bank), (.mixer, mixer), (.engine, engine), (.walk, walk),
   (.fade 0, fadePosts fs 0), (.fade 1, fadePosts fs 1), (.fade 2, fadePosts fs 2), (.fade 3, fadePosts fs 3)]

/-- The field-start event reaches the units (R55, R99, R107, R112, R138): the swap and the keyer state pending before it are
applied, the lock engine counts it, the request that comes between is executed (R108), the cue unit walks, and the generators
step at the end of the walk. The order of the units' reports is open (log 10), but that a unit which executes the request
between its performance and the walk posts before the walk (R150); `check` are the reports of a jam check still to be placed. -/
def State.takeField (s : State) (check : List Post) (between : List Byte) : State :=
  let b := s.banks.perform
  let m := s.mixer.applyKeyer
  let e := ((s.setBanks b.1).setMixer m.1).takeGeneratedField
  let w := (e.1.takeBetween between).walk s.timing.count
  (w.1.setFades (w.1.fades.map fun f => f.endWalk.1)).postWork (s.orderedBy between) (fieldWork check b.2 m.2 e.2 w.2 w.1.fades)

/-- A generated field start of parity p with its cause (R44). The reports of a jam check completed at the same carry stand
before the field start, with the old count, or among its reports (log 11). -/
def State.fieldStart (s : State) (p : Parity) (cause : Cause) (check : List Post) (between : List Byte) : State :=
  let first := check.isEmpty || Config.checkResultFirst s.draw
  let s0 := if first then s.postAll check else s
  let s1 := if check.isEmpty then s0 else s0.setDraw (s.draw + 1)
  (s1.setTiming (s1.timing.startField p cause)).takeField (if first then [] else check) between

/-! ## A generated line start (R42) -/

/-- The line-start event: the key and the syncs, the store's read (R72 to R74, R78), the line context (R85) and the
generated-stamp history (R25). -/
def State.lineStart (s : State) (stamp : Stamp) : State :=
  let s1 := s.setTiming s.timing.startLine
  let s2 := s1.storeRead s1.timing.key
  let s3 := s2.setMixer s2.mixer.loadContext
  s3.setEngine (s3.engine.record stamp)

/-- A natural field start at a line start, if one falls there (R43). -/
def State.naturalField (s : State) (between : List Byte) : State :=
  match s.timing.naturalStart with
  | some p => s.fieldStart p .natural [] between
  | none => s

/-! ## The jam check (R60, R61) -/

/-- The number of a line start in a natural frame, from 0 (R61). -/
def lineIndex (std : Standard) (k : Key) : Nat :=
  match k.parity with
  | .one => k.line - 1
  | .two => k.line - 1 + fieldLength std .one

/-- The signed shift of a jam to (p, 1) with the given due key (R61). -/
def jamShift (std : Standard) (p : Parity) (due : Key) : Int :=
  let n := ((lineIndex std ⟨p, 1⟩ : Int) - lineIndex std due) % frameLength std
  if n ≤ (frameLength std / 2 : Nat) then n else n - frameLength std

/-- Vertical match takes the result of a check (R60). -/
def State.setMatch (s : State) (v : Bool) : State := s.setEngine { s.engine with vmatch := v }

/-- A completed check of parity p, `due` being the due key: on a match the natural field start takes place and the entry to
LOCKED is tested, on a mismatch the field start is forced (R51, R60, R61). DESIGN CHOICE (log 34): in ACQUIRE the result counts
whenever the check was armed, before a stay in LOCKED too. -/
def State.completeCheck (s : State) (p : Parity) (due : Key) (between : List Byte) : State :=
  let s0 := s.setTiming { s.timing with jam := none }
  if due = ⟨p, 1⟩ then
    let r := (s0.setMatch true).testLocked
    r.1.fieldStart p .natural r.2 between
  else
    (s0.setMatch false).fieldStart p .jam [lockPostInt .jam p.code (jamShift s.timing.standard p due)] between

/-! ## The pixel produced at a carry (R75, R89, R90) -/

/-- The pixel at the generator's position, with the values of its moment. -/
def State.pixelNow (s : State) (video : Sample) : Pixel :=
  { key := s.timing.key, x := s.timing.pixel, count := s.timing.count, keyer := s.mixer.keyer,
    windows := s.banks.liveWindows, levels := fadeLevels s.fades, video := video, before := false }

/-- The sample instant of this tick (R71), and the store output for the pixel produced at it: where the two differ, whether
the pixel sees the sample is open (log 12). -/
def State.sampleAndRead (s : State) (ref : Sample) : State × Sample :=
  let st := s.store.sampleTick s.stamp ref
  let before := s.store.output s.timing.standard s.timing.lpix s.timing.pixel
  let after := st.output s.timing.standard s.timing.lpix s.timing.pixel
  ((s.setStore st).setDraw (s.draw + 1),
    if before = after then after else if Config.sampleBeforePixel s.draw then after else before)

/-- The mixer's work at a pixel clock; a limited pixel latches CLIP (R97). -/
def State.mixPixel (s : State) (video : Sample) (index : BitVec 4) : State :=
  let r := s.mixer.clock s.timing.latency (s.pixelNow video) index s.timing.lineSync.isSome s.timing.fieldSync.isSome
  let s1 := s.setMixer r.1
  if r.2 then s1.latch condClip else s1

/-- The tick ends: the stamp counter moves on by one tick, 16 fu (log 2). -/
def State.endTick (s : State) : State := s.setStamp (s.stamp + 16)

/-- A carrying tick: the oscillator, the pixel counter, what the carry makes, the sample and the pixel. -/
def State.carryTick (s : State) (index : BitVec 4) (ref : Sample) (event : State → State) : State :=
  let s1 := s.accumulate
  let s2 := event (s1.setTiming s1.timing.advancePixel)
  let r := s2.sampleAndRead ref
  ((r.1.mixPixel r.2 index).endTick).settle

/-- A command of the clock runs when the tick is of its kind (log 7). -/
def State.onTick (s : State) (kind : TickKind) (t : State) : Host.Outcome State Fault Refusal :=
  if s.tickKind = kind then .next t else .next s

/-! ## The commands of the clock -/

/-- What the wrap of the pixel counter makes (R42, R43). -/
def State.wrapEvent (stamp : Stamp) (between : List Byte) (s : State) : State :=
  ((s.setTiming s.timing.beginLine).naturalField between).lineStart stamp

/-- GENERATED_LINE_START. Without a natural field start there is nothing for a request to come between. -/
def execGeneratedLineStart (index : BitVec 4) (tick : FieldTick) (s : State) : Host.Outcome State Fault Refusal :=
  s.onTick .lineStart (s.carryTick index tick.ref (State.wrapEvent s.lineStamp tick.between))

/-- MID_LINE_FIELD_START: the natural parity-2 field start of interlaced timing (R43). -/
def execMidLineFieldStart (index : BitVec 4) (tick : FieldTick) (s : State) : Host.Outcome State Fault Refusal :=
  s.onTick .midLine (s.carryTick index tick.ref fun t => t.fieldStart .two .natural [] tick.between)

/-- What the carry makes at which a check completes: at mid-line for parity 2 in interlaced timing, else at the due line
start (R60). The due key is the natural key as the carry finds the position. -/
def State.jamEvent (p : Parity) (midLine : Bool) (due : Key) (stamp : Stamp) (between : List Byte) (s : State) : State :=
  if midLine then s.completeCheck p due between
  else ((s.setTiming s.timing.beginLine).completeCheck p due between).lineStart stamp

/-- JAM_CHECK_COMPLETE. -/
def execJamCheckComplete (index : BitVec 4) (tick : FieldTick) (s : State) : Host.Outcome State Fault Refusal :=
  match s.timing.jamDue with
  | none => .next s
  | some j => s.onTick .jamCheck (s.carryTick index tick.ref (State.jamEvent j.parity
      (decide (j.parity = .two ∧ s.timing.mode = .interlaced)) s.timing.naturalKey s.lineStamp tick.between))

/-- What the restart carry makes: pixel 0, the field start of parity 1 with cause RESTART, and line (1, 1) (R64). -/
def State.restartEvent (stamp : Stamp) (between : List Byte) (s : State) : State :=
  let t := { s.timing.beginLine with pixel := 0, restartPending := false }
  (((s.setMixer s.mixer.discard).setTiming t).fieldStart .one .restart [] between).lineStart stamp

/-- TIMING_RESTART_CARRY. -/
def execTimingRestartCarry (index : BitVec 4) (tick : FieldTick) (s : State) : Host.Outcome State Fault Refusal :=
  s.onTick .restartCarry (s.carryTick index tick.ref (State.restartEvent s.lineStamp tick.between))

/-- LINE_SYNC_RELEASE: the pixel clock at which line sync is released (R46). -/
def execLineSyncRelease (index : BitVec 4) (ref : Sample) (s : State) : Host.Outcome State Fault Refusal :=
  s.onTick .lineSyncRelease (s.carryTick index ref id)

/-- PIXEL_CLOCK: a carry at which nothing but the pixel is made. -/
def execPixelClock (index : BitVec 4) (ref : Sample) (s : State) : Host.Outcome State Fault Refusal :=
  s.onTick .pixel (s.carryTick index ref id)

/-- MEASUREMENT_TICK: a tick that does not carry; the accumulator adds K, and a sample may be due (R23, R71). -/
def execMeasurementTick (ref : Sample) (s : State) : Host.Outcome State Fault Refusal :=
  s.onTick .measurement ((s.accumulate).setStore (s.store.sampleTick s.stamp ref)).endTick

end Sys2Proof.Machine
end

