-- ==== Sys2Proof/Machine/CueRequests.lean ====
section
/-! DEFINITION. The requests of the cue pool (spec/07, sections 7.3 to 7.7), with the order of checks of Table 7-E. -/

namespace Sys2Proof.Machine

/-- The targets of CUE NEW (R127). -/
def newListOf (v : Nat) : Option CueList :=
  match cueListOf v with
  | some .armed => some .armed
  | some .held => some .held
  | _ => none

/-- The targets of CUE MOVE (R129): FREE is never one. -/
def moveListOf (v : Nat) : Option CueList :=
  match cueListOf v with
  | some .free => none
  | l => l

/-- The head of FREE becomes a cue of the given content at the tail of a list, its pending flag clear (R127, steps 4 and 5). -/
def CuePool.take (p : CuePool) (i : Fin 64) (l : CueList) (c : CueContent) : CuePool := (p.move i l .tail).setRecord i ⟨c, false⟩

def answerCueNew (params : List Byte) (s : State) : Answer :=
  match fields (1 :: cueContentSizes) params with
  | some (l :: rest) =>
    match newListOf l, cueContentOf rest with
    | some list, some content =>
      match s.cues.free with
      | [] => s.refuse .noSpace
      | i :: _ => (s.setCues (s.cues.take i list content)).okay (bytesOf 1 i.val ++ content.bytes)
    | _, _ => s.refuse .badParam
  | _ => s.refuse .badParam

/-- CUE_NEW. -/
def execCueNew (params : List Byte) (s : State) : Host.Outcome State Fault Refusal :=
  s.request 0x50 params (answerCueNew params)

/-- A cue's content rewritten; list, links and pending flag stay (R128). -/
def CuePool.rewrite (p : CuePool) (i : Fin 64) (c : CueContent) : CuePool := p.setRecord i { p.records[i] with content := c }

def answerCueSet (params : List Byte) (s : State) : Answer :=
  match fields (1 :: cueContentSizes) params with
  | some (v :: rest) =>
    match indexBelow 64 v, cueContentOf rest with
    | some i, some content =>
      match s.cues.listOf i with
      | .free => s.refuse .wrongState
      | .armed => s.refuse .wrongState
      | .held | .done => (s.setCues (s.cues.rewrite i content)).okay content.bytes
    | _, _ => s.refuse .badParam
  | _ => s.refuse .badParam

/-- CUE_SET. -/
def execCueSet (params : List Byte) (s : State) : Host.Outcome State Fault Refusal :=
  s.request 0x51 params (answerCueSet params)

/-- A cue's list and its previous and next links (Table 10-F; R177). -/
def CuePool.placeBytes (p : CuePool) (i : Fin 64) : List Byte :=
  bytesOf 1 (p.listOf i).code ++ bytesOf 1 (indexCode ((p.prevOf i).map (·.val))) ++
  bytesOf 1 (indexCode ((p.nextOf i).map (·.val)))

/-- A cue moved, and the reply that shows where it stands. -/
def State.moveCue (s : State) (i : Fin 64) (l : CueList) (at' : Place) : Answer :=
  let p := s.cues.move i l at'
  (s.setCues p).okay (p.placeBytes i)

/-- A position (7.1.04). -/
def positionOf : Nat → Option Place
  | 0 => some .head
  | 1 => some .tail
  | _ => none

def answerCueMove (params : List Byte) (s : State) : Answer :=
  match fields [1, 1, 1] params with
  | some [v, l, pos] =>
    match indexBelow 64 v, moveListOf l, positionOf pos with
    | some i, some list, some at' => if s.cues.listOf i = .free then s.refuse .wrongState else s.moveCue i list at'
    | _, _, _ => s.refuse .badParam
  | _ => s.refuse .badParam

/-- CUE_MOVE. -/
def execCueMove (params : List Byte) (s : State) : Host.Outcome State Fault Refusal :=
  s.request 0x52 params (answerCueMove params)

def answerCuePlace (params : List Byte) (s : State) : Answer :=
  match fields [1, 1] params with
  | some [v, w] =>
    match indexBelow 64 v, indexBelow 64 w with
    | some i, some j =>
      if i = j then s.refuse .badParam
      else if s.cues.listOf i = .free ∨ s.cues.listOf j = .free then s.refuse .wrongState
      else s.moveCue i (s.cues.listOf j) (.before j)
    | _, _ => s.refuse .badParam
  | _ => s.refuse .badParam

/-- CUE_PLACE. -/
def execCuePlace (params : List Byte) (s : State) : Host.Outcome State Fault Refusal :=
  s.request 0x53 params (answerCuePlace params)

/-- The cue that a request of one index names. -/
def cueOf (params : List Byte) : Option (Fin 64) :=
  match fields [1] params with
  | some [v] => indexBelow 64 v
  | _ => none

/-- A pending flag cleared (R134). -/
def CuePool.clearFired (p : CuePool) (i : Fin 64) : CuePool := p.setRecord i { p.records[i] with pending := false }

def answerCueDiscard (params : List Byte) (s : State) : Answer :=
  match cueOf params with
  | none => s.refuse .badParam
  | some i =>
    if s.cues.listOf i = .free then s.refuse .wrongState
    else
      let p := (s.cues.move i .free .tail).clearFired i
      (s.setCues p).okay (bytesOf 1 p.free.length)

/-- CUE_DISCARD. -/
def execCueDiscard (params : List Byte) (s : State) : Host.Outcome State Fault Refusal :=
  s.request 0x54 params (answerCueDiscard params)

def answerCueRead (params : List Byte) (s : State) : Answer :=
  match cueOf params with
  | none => s.refuse .badParam
  | some i =>
    s.okay (s.cues.placeBytes i ++ (s.cues.records[i]).content.bytes ++ bytesOf 1 (boolCode (s.cues.records[i]).pending))

/-- CUE_READ. -/
def execCueRead (params : List Byte) (s : State) : Host.Outcome State Fault Refusal :=
  s.request 0x55 params (answerCueRead params)

/-- The results of CUE LIST: the size, then the indices from the head to the tail (R133). -/
def cueListBytes (ids : List (Fin 64)) : List Byte := bytesOf 1 ids.length ++ ids.map fun i => BitVec.ofNat 8 i.val

def answerCueList (params : List Byte) (s : State) : Answer :=
  match fields [1] params with
  | some [v] =>
    match cueListOf v with
    | none => s.refuse .badParam
    | some l => s.okay (cueListBytes (s.cues.on l))
  | _ => s.refuse .badParam

/-- CUE_LIST. -/
def execCueList (params : List Byte) (s : State) : Host.Outcome State Fault Refusal :=
  s.request 0x56 params (answerCueList params)

def answerCueCollect (params : List Byte) (s : State) : Answer :=
  match params with
  | [] =>
    match s.cues.pendingSet with
    | [] => s.refuse .empty
    | i :: rest =>
      let p := s.cues.clearFired i
      (s.setCues p).okay (bytesOf 1 i.val ++ bytesOf 2 (p.records[i]).content.tag.toNat ++ bytesOf 1 (p.listOf i).code ++
        bytesOf 1 rest.length)
  | _ :: _ => s.refuse .badParam

/-- CUE_COLLECT. -/
def execCueCollect (params : List Byte) (s : State) : Host.Outcome State Fault Refusal :=
  s.request 0x57 params (answerCueCollect params)

end Sys2Proof.Machine
end

