-- ==== Sys2Proof/Machine/LockRequests.lean ====
section
/-! DEFINITION. The requests of the lock and timing half: Table 10-E from SET STANDARD to QUERY STORE (spec/01, section 1.6;
spec/02, section 2.5; spec/03; spec/04, section 4.7). -/

namespace Sys2Proof.Machine

/-! ## Standard and raster (R63) -/

def answerSetStandard (params : List Byte) (s : State) : Answer :=
  match fields [1] params with
  | some [v] =>
    match standardOf v with
    | none => s.refuse .badParam
    | some std =>
      let s1 := if s.timing.standard = std then s else (s.setTiming { s.timing with standard := std }).timingRestart true
      s1.okay (bytesOf 1 std.code)
  | _ => s.refuse .badParam

/-- SET_STANDARD. -/
def execSetStandard (params : List Byte) (s : State) : Host.Outcome State Fault Refusal :=
  s.request 0x10 params (answerSetStandard params)

/-- The timing settings with a new raster. -/
def Timing.withRaster (t : Timing) (lpix : Nat) (mode : RasterMode) (latency : Nat) : Timing :=
  { t with lpix := lpix, mode := mode, latency := latency }

def answerSetRaster (params : List Byte) (s : State) : Answer :=
  match fields [2, 1, 1] params with
  | some [l, m, n] =>
    match rasterModeOf m with
    | none => s.refuse .badParam
    | some mode =>
      let lpix := clampNat 320 1400 l
      let latency := clampNat 0 15 n
      let t := s.timing.withRaster lpix mode latency
      let s1 := if t = s.timing then s else (s.setTiming t).timingRestart false
      s1.okay (bytesOf 2 lpix ++ bytesOf 1 mode.code ++ bytesOf 1 latency)
  | _ => s.refuse .badParam

/-- SET_RASTER. -/
def execSetRaster (params : List Byte) (s : State) : Host.Outcome State Fault Refusal :=
  s.request 0x11 params (answerSetRaster params)

/-! ## The loop (R36, R37, R38) -/

/-- The profile takes a value; a change to BROADCAST clears S (R37). -/
def Engine.setProfile (e : Engine) (p : Profile) : Engine :=
  if e.profile = p then e
  else
    match p with
    | .broadcast => { e with profile := .broadcast, s := 0 }
    | .tape => { e with profile := .tape }

def answerSetProfile (params : List Byte) (s : State) : Answer :=
  match fields [1] params with
  | some [v] =>
    match profileOf v with
    | none => s.refuse .badParam
    | some p => (s.setEngine (s.engine.setProfile p)).okay (bytesOf 1 p.code)
  | _ => s.refuse .badParam

/-- SET_PROFILE. -/
def execSetProfile (params : List Byte) (s : State) : Host.Outcome State Fault Refusal :=
  s.request 0x12 params (answerSetProfile params)

/-- A phase byte: LOCKED is true (Table 10-H). -/
def phaseOf : Nat → Option Bool := flagOf

/-- One of the four pairs replaced (R36). -/
def Gains.setPair (g : Gains) (p : Profile) (locked : Bool) (x : GainPair) : Gains :=
  match p, locked with
  | .broadcast, false => { g with broadcastAcquire := x }
  | .broadcast, true => { g with broadcastLocked := x }
  | .tape, false => { g with tapeAcquire := x }
  | .tape, true => { g with tapeLocked := x }

def answerSetGains (params : List Byte) (s : State) : Answer :=
  match fields [1, 1, 1, 1] params with
  | some [p, ph, a, b] =>
    match profileOf p, phaseOf ph with
    | some profile, some locked =>
      let pair : GainPair := ⟨clampNat 0 15 a, clampNat 0 23 b⟩
      (s.setEngine { s.engine with gains := s.engine.gains.setPair profile locked pair }).okay
        (bytesOf 1 pair.sp ++ bytesOf 1 pair.si)
    | _, _ => s.refuse .badParam
  | _ => s.refuse .badParam

/-- SET_GAINS. -/
def execSetGains (params : List Byte) (s : State) : Host.Outcome State Fault Refusal :=
  s.request 0x13 params (answerSetGains params)

def answerSetAdvance (params : List Byte) (s : State) : Answer :=
  match fields [2] params with
  | some [v] =>
    let a := clampInt (-8192) 8191 (signed 2 v)
    (s.setEngine { s.engine with a := a }).okay (bytesOfInt 2 a)
  | _ => s.refuse .badParam

/-- SET_ADVANCE. -/
def execSetAdvance (params : List Byte) (s : State) : Host.Outcome State Fault Refusal :=
  s.request 0x16 params (answerSetAdvance params)

/-! ## Lock parameters and states (R56, R57, R58) -/

def answerSetLockWindows (params : List Byte) (s : State) : Answer :=
  match fields [2, 2, 2, 2] params with
  | some [a, b, c, d] =>
    let wLock := clampNat 1 1023 a
    let wDrop := clampNat wLock 4095 b
    let nLock := clampNat 1 1023 c
    let nUnlock := clampNat 1 255 d
    (s.setEngine { s.engine with wLock := wLock, wDrop := wDrop, nLock := nLock, nUnlock := nUnlock }).okay
      (bytesOf 2 wLock ++ bytesOf 2 wDrop ++ bytesOf 2 nLock ++ bytesOf 2 nUnlock)
  | _ => s.refuse .badParam

/-- SET_LOCK_WINDOWS. -/
def execSetLockWindows (params : List Byte) (s : State) : Host.Outcome State Fault Refusal :=
  s.request 0x14 params (answerSetLockWindows params)

def answerSetQualify (params : List Byte) (s : State) : Answer :=
  match fields [1, 2] params with
  | some [a, b] =>
    let q := clampNat 1 255 a
    let hmax := clampNat 0 65535 b
    (s.setEngine { s.engine with q := q, hmax := hmax }).okay (bytesOf 1 q ++ bytesOf 2 hmax)
  | _ => s.refuse .badParam

/-- SET_QUALIFY. -/
def execSetQualify (params : List Byte) (s : State) : Host.Outcome State Fault Refusal :=
  s.request 0x15 params (answerSetQualify params)

def answerSetInternal (params : List Byte) (s : State) : Answer :=
  match params with
  | [] =>
    if s.engine.lock = .internal then s.okay []
    else
      let r := s.enterInternal
      (r.1.postAll r.2).okay []
  | _ :: _ => s.refuse .badParam

/-- SET_INTERNAL. -/
def execSetInternal (params : List Byte) (s : State) : Host.Outcome State Fault Refusal :=
  s.request 0x17 params (answerSetInternal params)

def answerReleaseInternal (params : List Byte) (s : State) : Answer :=
  match params with
  | [] =>
    if s.engine.lock = .internal then
      let r := s.leaveInternal
      (r.1.postAll r.2).okay []
    else s.refuse .wrongState
  | _ :: _ => s.refuse .badParam

/-- RELEASE_INTERNAL. -/
def execReleaseInternal (params : List Byte) (s : State) : Host.Outcome State Fault Refusal :=
  s.request 0x18 params (answerReleaseInternal params)

/-! ## The field count (R45) -/

def answerSetFieldCount (params : List Byte) (s : State) : Answer :=
  match fields [3] params with
  | some [v] => (s.setTiming { s.timing with load := some (BitVec.ofNat 24 v) }).okay (bytesOf 3 v)
  | _ => s.refuse .badParam

/-- SET_FIELD_COUNT. -/
def execSetFieldCount (params : List Byte) (s : State) : Host.Outcome State Fault Refusal :=
  s.request 0x19 params (answerSetFieldCount params)

/-! ## The classifier's windows (R19) -/

def answerSetSyncWindows (params : List Byte) (s : State) : Answer :=
  match fields [2, 2, 1, 1] params with
  | some [a, b, c, d] =>
    let wn := clampNat 8 128 a
    let ww := clampNat wn 768 b
    let nloss := clampNat 4 63 c
    let bad := clampNat 0 31 d
    (s.setClassifier { s.classifier with wn := wn, ww := ww, nloss := nloss, b := bad }).okay
      (bytesOf 2 wn ++ bytesOf 2 ww ++ bytesOf 1 nloss ++ bytesOf 1 bad)
  | _ => s.refuse .badParam

/-- SET_SYNC_WINDOWS. -/
def execSetSyncWindows (params : List Byte) (s : State) : Host.Outcome State Fault Refusal :=
  s.request 0x1C params (answerSetSyncWindows params)

/-! ## The line store (R80, R81) -/

def answerSetStoreDelay (params : List Byte) (s : State) : Answer :=
  match fields [1] params with
  | some [v] =>
    let d := clampNat 2 6 v
    (s.setStore { s.store with d := d }).okay (bytesOf 1 d)
  | _ => s.refuse .badParam

/-- SET_STORE_DELAY. -/
def execSetStoreDelay (params : List Byte) (s : State) : Host.Outcome State Fault Refusal :=
  s.request 0x20 params (answerSetStoreDelay params)

def answerSetVideoTrim (params : List Byte) (s : State) : Answer :=
  match fields [1] params with
  | some [v] =>
    let h := clampInt (-32) 31 (signed 1 v)
    (s.setStore { s.store with h := h }).okay (bytesOfInt 1 h)
  | _ => s.refuse .badParam

/-- SET_VIDEO_TRIM. -/
def execSetVideoTrim (params : List Byte) (s : State) : Host.Outcome State Fault Refusal :=
  s.request 0x21 params (answerSetVideoTrim params)

/-! ## Queries (R21, R39, R47, R65, R82) -/

/-- The classifier's part of the lock record (R21): parity and line number are 0 when UNNUMBERED, the line number is 0 when
line 1 is awaited, the verdict's items are 0 when there is none. -/
def Classifier.bytes (c : Classifier) : List Byte :=
  bytesOf 1 c.tracking.code ++ bytesOf 2 c.lavg ++
  (match c.numbering with
    | .unnumbered => bytesOf 1 0 ++ bytesOf 1 0 ++ bytesOf 2 0
    | .awaiting p => bytesOf 1 1 ++ bytesOf 1 p.code ++ bytesOf 2 0
    | .numbered k => bytesOf 1 2 ++ bytesOf 1 k.parity.code ++ bytesOf 2 k.line) ++
  bytesOf 1 c.synthCount ++ bytesOf 1 c.badCount ++
  (match c.verdict with
    | none => bytesOf 4 0
    | some v => bytesOf 1 v.parity.code ++ bytesOf 2 v.lines ++ bytesOf 1 (if v.good then 1 else 2)) ++
  bytesOf 1 c.wrongRun ++ bytesOf 1 (boolCode c.refAbsent) ++ bytesOf 1 (boolCode c.mismatch)

/-- The loop's and the lock engine's part of the lock record (R39, R65). -/
def Engine.bytes (e : Engine) : List Byte :=
  bytesOf 4 e.k0 ++ bytesOf 4 e.kspan ++ bytesOf 4 e.k ++ bytesOfInt 4 e.i ++ bytesOfInt 2 e.s ++ bytesOfInt 2 e.e ++
  bytesOfInt 2 e.a ++ bytesOf 1 e.profile.code ++ bytesOf 1 e.gainsInUse.sp ++ bytesOf 1 e.gainsInUse.si ++
  bytesOf 1 (boolCode e.atLimit) ++
  bytesOf 1 e.lock.code ++ bytesOf 1 e.qual ++ bytesOf 2 e.lockRun ++ bytesOf 1 e.dropRun ++ bytesOf 1 e.missRun ++
  bytesOf 2 e.holdover ++ bytesOf 1 (boolCode e.vmatch) ++ bytesOf 1 e.q ++ bytesOf 2 e.hmax ++ bytesOf 2 e.wLock ++
  bytesOf 2 e.wDrop ++ bytesOf 2 e.nLock ++ bytesOf 1 e.nUnlock ++ bytesOf 1 (boolCode e.unlocked)

/-- A query without parameters: the record as it stands when the request executes. -/
def State.query (s : State) (params : List Byte) (record : List Byte) : Answer :=
  match params with
  | [] => s.okay record
  | _ :: _ => s.refuse .badParam

/-- QUERY_LOCK. -/
def execQueryLock (params : List Byte) (s : State) : Host.Outcome State Fault Refusal :=
  s.request 0x1A params fun t => t.query params (t.classifier.bytes ++ t.engine.bytes)

/-- QUERY_TIMING. -/
def execQueryTiming (params : List Byte) (s : State) : Host.Outcome State Fault Refusal :=
  s.request 0x1B params fun t => t.query params t.timing.bytes

/-- QUERY_STORE. -/
def execQueryStore (params : List Byte) (s : State) : Host.Outcome State Fault Refusal :=
  s.request 0x22 params fun t => t.query params t.store.bytes

end Sys2Proof.Machine
end

