-- ==== Sys2Proof/Machine/ReportRequests.lean ====
section
/-! DEFINITION. The requests of the report unit (spec/09, sections 9.2 to 9.4). -/

namespace Sys2Proof.Machine

/-- The queue that a request of one index names. -/
def queueOf (params : List Byte) : Option (Fin 4) :=
  match fields [1] params with
  | some [v] => indexBelow 4 v
  | _ => none

/-- A queue replaced. -/
def ReportUnit.setQueue (r : ReportUnit) (q : Fin 4) (rs : List Report) : ReportUnit := { r with queues := r.queues.set q rs }

def answerReportPeek (params : List Byte) (s : State) : Answer :=
  match queueOf params with
  | none => s.refuse .badParam
  | some q =>
    match s.reports.queues[q] with
    | [] => s.refuse .empty
    | r :: rest => s.okay (r.bytes ++ bytesOf 1 (rest.length + 1))

/-- REPORT_PEEK (R157). -/
def execReportPeek (params : List Byte) (s : State) : Host.Outcome State Fault Refusal :=
  s.request 0x60 params (answerReportPeek params)

def answerReportTake (params : List Byte) (s : State) : Answer :=
  match queueOf params with
  | none => s.refuse .badParam
  | some q =>
    match s.reports.queues[q] with
    | [] => s.refuse .empty
    | r :: rest => (s.setReports (s.reports.setQueue q rest)).okay (r.bytes ++ bytesOf 1 rest.length)

/-- REPORT_TAKE (R158). -/
def execReportTake (params : List Byte) (s : State) : Host.Outcome State Fault Refusal :=
  s.request 0x61 params (answerReportTake params)

def answerReportFlush (params : List Byte) (s : State) : Answer :=
  match queueOf params with
  | none => s.refuse .badParam
  | some q => (s.setReports (s.reports.setQueue q [])).okay (bytesOf 1 (s.reports.queues[q]).length)

/-- REPORT_FLUSH (R159). -/
def execReportFlush (params : List Byte) (s : State) : Host.Outcome State Fault Refusal :=
  s.request 0x62 params (answerReportFlush params)

/-- The reply of CONDITIONS is formed before the clearing (R162, step 1); then the named conditions are cleared, and those
whose causes hold latched again (steps 2 and 3). -/
def answerConditions (params : List Byte) (s : State) : Answer :=
  match fields [2] params with
  | some [v] =>
    let mask := BitVec.ofNat 11 v
    let latched := (s.reports.latched &&& ~~~mask) ||| (s.causes &&& mask)
    (s.setReports { s.reports with latched := latched }).okay
      (bytesOf 2 s.reports.latched.toNat ++ bytesOf 1 s.causes.toNat)
  | _ => s.refuse .badParam

/-- CONDITIONS (R162). -/
def execConditions (params : List Byte) (s : State) : Host.Outcome State Fault Refusal :=
  s.request 0x63 params (answerConditions params)

def answerSetAttention (params : List Byte) (s : State) : Answer :=
  match fields [2, 1] params with
  | some [c, q] =>
    let conds := BitVec.ofNat 11 c
    let queues := BitVec.ofNat 4 q
    (s.setReports { s.reports with condEnables := conds, queueEnables := queues }).okay
      (bytesOf 2 conds.toNat ++ bytesOf 1 queues.toNat)
  | _ => s.refuse .badParam

/-- SET_ATTENTION (R164). -/
def execSetAttention (params : List Byte) (s : State) : Host.Outcome State Fault Refusal :=
  s.request 0x64 params (answerSetAttention params)

end Sys2Proof.Machine
end

