-- ==== Sys2Proof/Machine/Dispatch.lean ====
section
/-! DEFINITION. The meaning of every command, one arm per row of the table. -/

namespace Sys2Proof.Machine

/-- A command's effect on everything but the queue. -/
def exec (i : Instr) (s : State) : Host.Outcome State Fault Refusal :=
  match i with
  | .powerOn rate0 rate1 => Sys2Proof.Machine.execPowerOn rate0 rate1 s
  | .syncPulse width => Sys2Proof.Machine.execSyncPulse width s
  | .overlongPulse => Sys2Proof.Machine.execOverlongPulse s
  | .candidateExpiry => Sys2Proof.Machine.execCandidateExpiry s
  | .wideWindowClose => Sys2Proof.Machine.execWideWindowClose s
  | .generatedLineStart index tick => Sys2Proof.Machine.execGeneratedLineStart index tick s
  | .midLineFieldStart index tick => Sys2Proof.Machine.execMidLineFieldStart index tick s
  | .jamCheckComplete index tick => Sys2Proof.Machine.execJamCheckComplete index tick s
  | .timingRestartCarry index tick => Sys2Proof.Machine.execTimingRestartCarry index tick s
  | .lineSyncRelease index ref => Sys2Proof.Machine.execLineSyncRelease index ref s
  | .badLength n => Sys2Proof.Machine.execBadLength n s
  | .badCheck check => Sys2Proof.Machine.execBadCheck check s
  | .frameTimeout => Sys2Proof.Machine.execFrameTimeout s
  | .closedByte b => Sys2Proof.Machine.execClosedByte b s
  | .replyEnd => Sys2Proof.Machine.execReplyEnd s
  | .restartTakesEffect => Sys2Proof.Machine.execRestartTakesEffect s
  | .unknownRequest kind params => Sys2Proof.Machine.execUnknownRequest kind params s
  | .echo params => Sys2Proof.Machine.execEcho params s
  | .restart params => Sys2Proof.Machine.execRestart params s
  | .setStandard params => Sys2Proof.Machine.execSetStandard params s
  | .setRaster params => Sys2Proof.Machine.execSetRaster params s
  | .setProfile params => Sys2Proof.Machine.execSetProfile params s
  | .setGains params => Sys2Proof.Machine.execSetGains params s
  | .setLockWindows params => Sys2Proof.Machine.execSetLockWindows params s
  | .setQualify params => Sys2Proof.Machine.execSetQualify params s
  | .setAdvance params => Sys2Proof.Machine.execSetAdvance params s
  | .setInternal params => Sys2Proof.Machine.execSetInternal params s
  | .releaseInternal params => Sys2Proof.Machine.execReleaseInternal params s
  | .setFieldCount params => Sys2Proof.Machine.execSetFieldCount params s
  | .queryLock params => Sys2Proof.Machine.execQueryLock params s
  | .queryTiming params => Sys2Proof.Machine.execQueryTiming params s
  | .setSyncWindows params => Sys2Proof.Machine.execSetSyncWindows params s
  | .setStoreDelay params => Sys2Proof.Machine.execSetStoreDelay params s
  | .setVideoTrim params => Sys2Proof.Machine.execSetVideoTrim params s
  | .queryStore params => Sys2Proof.Machine.execQueryStore params s
  | .setColour params => Sys2Proof.Machine.execSetColour params s
  | .setMatte params => Sys2Proof.Machine.execSetMatte params s
  | .setLossPolicy params => Sys2Proof.Machine.execSetLossPolicy params s
  | .keyer params => Sys2Proof.Machine.execKeyer params s
  | .windowSet params => Sys2Proof.Machine.execWindowSet params s
  | .windowClear params => Sys2Proof.Machine.execWindowClear params s
  | .bankSwap params => Sys2Proof.Machine.execBankSwap params s
  | .queryBank params => Sys2Proof.Machine.execQueryBank params s
  | .queryMixer params => Sys2Proof.Machine.execQueryMixer params s
  | .fadeLoad params => Sys2Proof.Machine.execFadeLoad params s
  | .fadeHold params => Sys2Proof.Machine.execFadeHold params s
  | .fadeResume params => Sys2Proof.Machine.execFadeResume params s
  | .queryFade params => Sys2Proof.Machine.execQueryFade params s
  | .cueNew params => Sys2Proof.Machine.execCueNew params s
  | .cueSet params => Sys2Proof.Machine.execCueSet params s
  | .cueMove params => Sys2Proof.Machine.execCueMove params s
  | .cuePlace params => Sys2Proof.Machine.execCuePlace params s
  | .cueDiscard params => Sys2Proof.Machine.execCueDiscard params s
  | .cueRead params => Sys2Proof.Machine.execCueRead params s
  | .cueList params => Sys2Proof.Machine.execCueList params s
  | .cueCollect params => Sys2Proof.Machine.execCueCollect params s
  | .reportPeek params => Sys2Proof.Machine.execReportPeek params s
  | .reportTake params => Sys2Proof.Machine.execReportTake params s
  | .reportFlush params => Sys2Proof.Machine.execReportFlush params s
  | .conditions params => Sys2Proof.Machine.execConditions params s
  | .setAttention params => Sys2Proof.Machine.execSetAttention params s
  | .pulseLeadingEdge stamp => Sys2Proof.Machine.execPulseLeadingEdge stamp s
  | .pixelClock index ref => Sys2Proof.Machine.execPixelClock index ref s
  | .measurementTick ref => Sys2Proof.Machine.execMeasurementTick ref s
  | .receivedByte b => Sys2Proof.Machine.execReceivedByte b s

end Sys2Proof.Machine
end

