-- ==== Sys2Proof/WellFormed.lean ====
section
/-! DEFINITION. Which commands can be sent at all: a body of at most 96 bytes (spec/10, Table 10-B), an impossible length
byte for BAD_LENGTH (R168), a kind byte that names no request for UNKNOWN_REQUEST (R173), and within a field start one of the
requests that may come there (log 14). -/

namespace Sys2Proof

/-- The parameters of a body of at most 96 bytes. -/
def paramsWf (params : List Byte) : Bool := decide (params.length ≤ 95)

/-- The body of a request within a field start: none, or a kind that may come there with its parameters. -/
def betweenWf : List Byte → Bool
  | [] => true
  | kind :: params => Machine.betweenKinds.contains kind && paramsWf params

/-- The parameter bytes of a request, none for the other commands. -/
def Instr.params : Instr → Option (List Byte)
  | .unknownRequest _ ps | .echo ps | .restart ps | .setStandard ps | .setRaster ps | .setProfile ps | .setGains ps
  | .setLockWindows ps | .setQualify ps | .setAdvance ps | .setInternal ps | .releaseInternal ps | .setFieldCount ps
  | .queryLock ps | .queryTiming ps | .setSyncWindows ps | .setStoreDelay ps | .setVideoTrim ps | .queryStore ps
  | .setColour ps | .setMatte ps | .setLossPolicy ps | .keyer ps | .windowSet ps | .windowClear ps | .bankSwap ps
  | .queryBank ps | .queryMixer ps | .fadeLoad ps | .fadeHold ps | .fadeResume ps | .queryFade ps | .cueNew ps
  | .cueSet ps | .cueMove ps | .cuePlace ps | .cueDiscard ps | .cueRead ps | .cueList ps | .cueCollect ps
  | .reportPeek ps | .reportTake ps | .reportFlush ps | .conditions ps | .setAttention ps => some ps
  | .powerOn .. | .syncPulse _ | .overlongPulse | .candidateExpiry | .wideWindowClose | .generatedLineStart ..
  | .midLineFieldStart .. | .jamCheckComplete .. | .timingRestartCarry .. | .lineSyncRelease .. | .badLength _
  | .badCheck _ | .frameTimeout | .closedByte _ | .replyEnd | .restartTakesEffect | .pulseLeadingEdge _
  | .pixelClock .. | .measurementTick _ | .receivedByte _ => none

/-- Whether a command is one that can come. -/
def Instr.wf (i : Instr) : Bool :=
  (match i.params with
    | some ps => paramsWf ps
    | none => true) &&
  match i with
  | .badLength n => decide (n.toNat = 0) || decide (96 < n.toNat)
  | .unknownRequest kind _ => !Machine.requestKinds.contains kind
  | .generatedLineStart _ tick | .midLineFieldStart _ tick | .jamCheckComplete _ tick | .timingRestartCarry _ tick =>
    betweenWf tick.between
  | _ => true

end Sys2Proof
end

