-- ==== Sys2Proof/Safety.lean ====
section
/-! DEFINITION. The vocabulary of the statements: replies, requests with their kinds and lengths, the time of a command, and
the properties of a state that every step is claimed to keep, unit by unit. -/

namespace Sys2Proof.Machine

/-! ## Requests and replies -/

/-- The state after a request has been executed and its reply formed: the receiver is CLOSED, the reply frame is on its way,
and the report unit has judged conditions and ATTN (R165, R167, R171, R172). -/
def State.replied (s : State) (kind : Byte) (status : Status) (results : List Byte) : State :=
  (s.close kind (kind :: status.code :: results)).settle

/-- The frame of a request of this kind with these parameters completes now. -/
def State.takes (s : State) (kind : Byte) (params : List Byte) : Prop :=
  params.length ≤ paramRoom ∧ s.link.completes kind params = true

/-- The kind byte of a request of Tables 10-E and 10-F with the number of its parameter bytes, none where it varies (ECHO). -/
def requestShape : Instr → Option (Byte × Option Nat)
  | .echo _ => some (0x01, none)
  | .restart _ => some (0x02, some 0)
  | .setStandard _ => some (0x10, some 1)
  | .setRaster _ => some (0x11, some 4)
  | .setProfile _ => some (0x12, some 1)
  | .setGains _ => some (0x13, some 4)
  | .setLockWindows _ => some (0x14, some 8)
  | .setQualify _ => some (0x15, some 3)
  | .setAdvance _ => some (0x16, some 2)
  | .setInternal _ => some (0x17, some 0)
  | .releaseInternal _ => some (0x18, some 0)
  | .setFieldCount _ => some (0x19, some 3)
  | .queryLock _ => some (0x1A, some 0)
  | .queryTiming _ => some (0x1B, some 0)
  | .setSyncWindows _ => some (0x1C, some 6)
  | .setStoreDelay _ => some (0x20, some 1)
  | .setVideoTrim _ => some (0x21, some 1)
  | .queryStore _ => some (0x22, some 0)
  | .setColour _ => some (0x30, some 5)
  | .setMatte _ => some (0x31, some 3)
  | .setLossPolicy _ => some (0x32, some 1)
  | .keyer _ => some (0x33, some 1)
  | .windowSet _ => some (0x34, some 15)
  | .windowClear _ => some (0x35, some 2)
  | .bankSwap _ => some (0x36, some 1)
  | .queryBank _ => some (0x37, some 1)
  | .queryMixer _ => some (0x38, some 0)
  | .fadeLoad _ => some (0x40, some 13)
  | .fadeHold _ => some (0x41, some 1)
  | .fadeResume _ => some (0x42, some 1)
  | .queryFade _ => some (0x43, some 1)
  | .cueNew _ => some (0x50, some 25)
  | .cueSet _ => some (0x51, some 25)
  | .cueMove _ => some (0x52, some 3)
  | .cuePlace _ => some (0x53, some 2)
  | .cueDiscard _ => some (0x54, some 1)
  | .cueRead _ => some (0x55, some 1)
  | .cueList _ => some (0x56, some 1)
  | .cueCollect _ => some (0x57, some 0)
  | .reportPeek _ => some (0x60, some 1)
  | .reportTake _ => some (0x61, some 1)
  | .reportFlush _ => some (0x62, some 1)
  | .conditions _ => some (0x63, some 2)
  | .setAttention _ => some (0x64, some 3)
  | _ => none

/-- The bytes that a receiver takes one by one. -/
def State.receive (s : State) (bs : List Byte) : State :=
  bs.foldl (fun t b => match exec (.receivedByte b) t with
    | .next u => u
    | _ => t) s

/-- The content that the 24 bytes of a cue content carry (R126; Table 10-G), none where a check refuses it. -/
def contentOf (bs : List Byte) : Option CueContent := (fields cueContentSizes bs).bind cueContentOf

/-! ## Records (R174, R177; Tables 10-G and 10-H) -/

/-- The bytes of fields given by their sizes and values, most significant byte first, a negative value in two's complement. -/
def packed (fs : List (Nat × Int)) : List Byte :=
  fs.flatMap fun f => (List.range f.1).map fun i => BitVec.ofInt 8 (f.2 / 256 ^ (f.1 - 1 - i))

/-- Yes and no, true and false. -/
def bit (b : Bool) : Int := if b then 1 else 0

/-- The fields of the lock record that the classifier gives: no verdict, no numbering and no line number are sent as 0. -/
def Classifier.fieldsOf (c : Classifier) : List (Nat × Int) :=
  [(1, match c.tracking with | .search => 0 | .track => 1), (2, c.lavg),
   (1, match c.numbering with | .unnumbered => 0 | .awaiting _ => 1 | .numbered _ => 2),
   (1, match c.numbering with | .unnumbered => 0 | .awaiting p => p.code | .numbered k => k.parity.code),
   (2, match c.numbering with | .unnumbered => 0 | .awaiting _ => 0 | .numbered k => k.line),
   (1, c.synthCount), (1, c.badCount),
   (1, match c.verdict with | none => 0 | some v => v.parity.code),
   (2, match c.verdict with | none => 0 | some v => v.lines),
   (1, match c.verdict with | none => 0 | some v => if v.good then 1 else 2),
   (1, c.wrongRun), (1, bit c.refAbsent), (1, bit c.mismatch)]

/-- The fields of the lock record that the lock engine gives; the pair sp, si is the pair in use. -/
def Engine.fieldsOf (e : Engine) : List (Nat × Int) :=
  let pair := e.gains.pair e.profile (e.lock = .locked)
  [(4, e.k0), (4, e.kspan), (4, e.k), (4, e.i), (2, e.s), (2, e.e), (2, e.a),
   (1, match e.profile with | .broadcast => 0 | .tape => 1), (1, pair.sp), (1, pair.si), (1, bit e.atLimit),
   (1, match e.lock with | .free => 0 | .acquire => 1 | .locked => 2 | .holdover => 3 | .internal => 4),
   (1, e.qual), (2, e.lockRun), (1, e.dropRun), (1, e.missRun), (2, e.holdover), (1, bit e.vmatch), (1, e.q), (2, e.hmax),
   (2, e.wLock), (2, e.wDrop), (2, e.nLock), (1, e.nUnlock), (1, bit e.unlocked)]

/-- The fields of the timing record: a load or a countdown that is not pending is sent as 0. -/
def Timing.fieldsOf (t : Timing) : List (Nat × Int) :=
  [(1, match t.standard with | .s625 => 0 | .s525 => 1), (2, t.lpix),
   (1, match t.mode with | .interlaced => 0 | .nonInterlaced => 1), (1, t.latency), (1, t.parity.code),
   (1, t.key.parity.code), (2, t.key.line), (2, t.pixel), (3, t.count.toNat),
   (1, match t.load with | none => 0 | some _ => 1), (3, match t.load with | none => 0 | some v => v.toNat),
   (1, match t.jam with | none => 0 | some _ => 1), (1, match t.jam with | none => 0 | some j => j.parity.code),
   (1, match t.jam with | none => 0 | some j => j.toCome)]

/-- The fields of one slot entry of the store record: all 0 for a FREE slot. -/
def Slot.fieldsOf (x : Slot) : List (Nat × Int) :=
  [(1, match x.role with | .free => 0 | .filled => 1 | .shown => 2),
   (2, if x.role = .free then 0 else 1024 * x.key.parity.code + x.key.line),
   (2, if x.role = .free then 0 else x.seq.toNat),
   (1, if x.role = .free then 0 else bit x.synthetic + 2 * bit x.step)]

/-- The fields of the store record; black is presented without a SHOWN slot and with one flagged SYNTHETIC. -/
def Store.fieldsOf (st : Store) : List (Nat × Int) :=
  [(1, bit st.active), (1, st.d), (1, st.h), (2, st.seq.toNat),
   (1, match st.shown with | none => 255 | some i => i.val),
   (1, match st.shown with | none => 1 | some i => bit (st.slots[i]).synthetic),
   (1, match st.lineOne with | none => 0 | some .hit => 1 | some .miss => 2)] ++
  (List.finRange 8).flatMap fun i => (st.slots[i]).fieldsOf

/-- The fields of the mixer record. -/
def Mixer.fieldsOf (m : Mixer) (latency : Nat) : List (Nat × Int) :=
  ((List.finRange 16).flatMap fun i =>
    [(1, ((m.table[i]).colour.y.toNat : Int)), (1, ((m.table[i]).colour.cb.toNat : Int)),
     (1, ((m.table[i]).colour.cr.toNat : Int)),
     (1, match (m.table[i]).cls with | .clear => 0 | .solid => 1 | .half => 2)]) ++
  ([(1, m.matte.y.toNat), (1, m.matte.cb.toNat), (1, m.matte.cr.toNat),
   (1, match m.policy with | .keep => 0 | .full => 1 | .hide => 2), (1, bit m.edits),
   (1, match m.ctx.source with | .matte => 0 | .store => 1), (1, bit m.keyer),
   (1, match m.keyerNext with | none => 255 | some v => bit v), (1, latency),
   (1, match m.clip with | none => 0 | some r => (match r.kind with | .video => 1 | .key => 2)),
   (2, match m.clip with | none => 0 | some r => 1024 * r.key.parity.code + r.key.line),
   (3, match m.clip with | none => 0 | some r => r.count.toNat)] : List (Nat × Int))

/-- The fields of a window record. -/
def Window.fieldsOf (w : Window) : List (Nat × Int) :=
  [(1, bit w.enabled), (2, w.top), (2, w.bottom), (2, w.left), (2, w.right),
   (1, match w.mode with | .replace => 0 | .add => 1),
   (1, match w.level with | .fixed _ => 0 | .gen _ => 1),
   (2, match w.level with | .fixed l => l | .gen g => g.val)]

/-- The fields of a fade record; α is floor((L + 128)/256). -/
def Fade.fieldsOf (f : Fade) : List (Nat × Int) :=
  [(1, bit f.run), (1, match f.kind with | .stop => 0 | .wrap => 1 | .bounce => 2), (3, f.level),
   (2, (f.level + 128) / 256), (2, f.step), (3, f.lo), (3, f.hi)]

/-- The fields of a cue content; the parameter fields that the action kind does not use are 0. -/
def CueContent.fieldsOf (c : CueContent) : List (Nat × Int) :=
  let fade : List Int :=
    match c.action with
    | .fade _ p => [p.level, p.step, p.lo, p.hi, match p.kind with | .stop => 0 | .wrap => 1 | .bounce => 2]
    | _ => [0, 0, 0, 0, 0]
  ([(3, c.trigger.toNat), (3, c.mask.toNat), (1, bit c.repeats), (1, match c.route with | none => 4 | some q => q.val),
   (2, c.tag.toNat),
   (1, match c.action with | .swap _ => 0 | .fade _ _ => 1 | .fadeHold _ => 2 | .keyer _ => 3 | .arm _ => 4 | .mark => 5),
   (1, match c.action with
     | .swap v => bit v | .fade g _ => g.val | .fadeHold g => g.val | .keyer v => bit v | .arm j => j.val | .mark => 0)] : List (Nat × Int)) ++
  [3, 2, 3, 3, 1].zip fade

/-- The fields of a report record. -/
def Report.fieldsOf (r : Report) : List (Nat × Int) :=
  [(1, r.kind.code), (3, r.count.toNat), (1, r.argA.toNat), (2, r.argB.toNat)]

/-! ## Events of the lock half -/

/-- The records that reports become when they are posted with a given field count (R154). -/
def recordsOf (count : Count) (ps : List Post) : List Report := ps.map fun p => ⟨p.kind, count, p.argA, p.argB⟩

/-- The reports of a change of lock state (R49), and of the end of AT_LIMIT when the change sets K while its cause holds (R35). -/
def changePosts (old new : LockState) (setsK atLimit : Bool) : List Post :=
  (if new = old then [] else [⟨0, .stateChange, BitVec.ofNat 8 new.code, BitVec.ofNat 16 old.code⟩]) ++
  (if setsK = true ∧ atLimit = true then [⟨0, .atLimitLeave, 0, 0⟩] else [])

/-- The store out of ACQUIRE and LOCKED: IDLE and empty (R68). -/
def Store.goneIdle (st : Store) : Store :=
  { st with active := false, slots := Vector.replicate 8 Slot.cleared, shown := none, sampling := none }

/-- The store at entry to ACQUIRE from an IDLE state: ACTIVE and empty, with no last line-1 result (R68). -/
def Store.goneActive (st : Store) : Store :=
  { st with
    active := true, slots := Vector.replicate 8 Slot.cleared, shown := none, sampling := none, lineOne := none }

/-- What a timing restart leaves (R20, R64, R79), from the state `s` with the new settings stored to the state `t`: the lock
engine free at the new nominal increment, the classifier in SEARCH, the store idle and empty, the restart carry awaited, every
other item as it stood (log 22), the title half and the stream of the oscillator among them; STATE_CHANGE and AT_LIMIT_LEAVE posted by the lock engine and
STANDARD_OK by the classifier when a change of standard ends a mismatch, the two units in an order that is open (log 13). -/
def timingRestarted (s t : State) (stdChanged : Bool) : Prop :=
  let k0 := nominalIncrement s.timing.standard s.timing.lpix
  t.engine = { s.engine with
    lock := .free, unlocked := true, atLimit := false, k0 := k0, kspan := k0 / 64, k := k0, i := 0, s := 0, e := 0
    qual := 0, lockRun := 0, dropRun := 0, missRun := 0, holdover := 0, vmatch := false } ∧
  t.timing = { s.timing with jam := none, restartPending := true } ∧
  t.classifier = { s.classifier with
    tracking := .search, lavg := lnom s.timing.standard, candidate := none, prediction := none, midLine := false
    syncRun := false, numbering := .unnumbered, synthCount := 0, badCount := 0, wrongRun := 0, previous := none
    flywheel := false, refAbsent := true, mismatch := s.classifier.mismatch && !stdChanged, closeHeld := false } ∧
  t.store = s.store.goneIdle ∧
  t.mixer = { s.mixer with recorded := .free } ∧ t.banks = s.banks ∧ t.fades = s.fades ∧ t.cues = s.cues ∧
  t.link = s.link ∧ t.stamp = s.stamp ∧ t.pulse = s.pulse ∧
  (t.reports.condEnables, t.reports.queueEnables, t.reports.attn) =
    (s.reports.condEnables, s.reports.queueEnables, s.reports.attn) ∧
  (∀ q : Fin 4, q ≠ 0 → t.reports.queues[q] = s.reports.queues[q]) ∧
  ((s.reports.queues[(0 : Fin 4)]).length ≤ 21 →
    let engine := recordsOf s.timing.count (changePosts s.engine.lock .free true s.engine.atLimit)
    let classifier := recordsOf s.timing.count
      (if stdChanged = true ∧ s.classifier.mismatch = true then [⟨0, .standardOk, 0, 0⟩] else [])
    t.reports.queues[(0 : Fin 4)] = s.reports.queues[(0 : Fin 4)] ++ (engine ++ classifier) ∨
    t.reports.queues[(0 : Fin 4)] = s.reports.queues[(0 : Fin 4)] ++ (classifier ++ engine))

/-- The generated line start that a target stamp is measured from (R27): the most recent one of the history, newest first, at
or before the target, or the oldest held when each comes after it. -/
def chosenStart (history : List Stamp) (target g : Stamp) : Prop :=
  (∃ newer older, history = newer ++ g :: older ∧ 0 ≤ stampDiff target g ∧ ∀ x ∈ newer, stampDiff target x < 0) ∨
  ((∃ newer, history = newer ++ [g]) ∧ ∀ x ∈ history, stampDiff target x < 0)

/-- One more, held at a bound. -/
def raised (bound n : Nat) : Nat := if n < bound then n + 1 else bound

/-- The lock engine and the reports of a loss event (R10, R54), from the state `s` to the state `t`. -/
def lossTaken (s t : State) : Prop :=
  let e := s.engine
  let held := { e with qual := 0, lockRun := 0, dropRun := 0, missRun := 0, unlocked := true, atLimit := false }
  (e.lock = .acquire ∨ e.lock = .locked →
    (1 ≤ e.hmax → t.engine = { held with
      lock := .holdover, holdover := e.hmax
      k := (clampInt (e.k0 - e.kspan) (e.k0 + e.kspan) (e.k0 - e.i)).toNat }) ∧
    (e.hmax = 0 → t.engine = { held with lock := .free, k := e.k0, i := 0, s := 0 }) ∧
    t.timing = { s.timing with jam := none } ∧ t.store = s.store.goneIdle ∧
    ((s.reports.queues[(0 : Fin 4)]).length ≤ 21 →
      t.reports.queues[(0 : Fin 4)] = s.reports.queues[(0 : Fin 4)] ++ recordsOf s.timing.count
        (⟨0, .refLost, 0, 0⟩ :: changePosts e.lock (if 1 ≤ e.hmax then .holdover else .free) true e.atLimit))) ∧
  (e.lock = .free ∨ e.lock = .holdover → t.engine = { e with qual := 0 }) ∧
  (e.lock = .internal → t.engine = e) ∧
  (e.lock = .free ∨ e.lock = .holdover ∨ e.lock = .internal →
    t.timing = s.timing ∧ t.store = s.store ∧
    ((s.reports.queues[(0 : Fin 4)]).length ≤ 23 →
      t.reports.queues[(0 : Fin 4)] = s.reports.queues[(0 : Fin 4)] ++ [⟨.refLost, s.timing.count, 0, 0⟩]))

/-- What a verdict with the given result does in the lock engine (R50, R55), S decaying with the field start (R31). -/
def verdictTaken (e t : Engine) (good : Bool) : Prop :=
  let s := decayOffset e.s
  (e.lock ≠ .free → e.lock ≠ .holdover → t = { e with s := s }) ∧
  (e.lock = .free ∨ e.lock = .holdover →
    (good = false → t = { e with s := s, qual := 0 }) ∧
    (good = true → raised 255 e.qual < e.q → t = { e with s := s, qual := raised 255 e.qual }) ∧
    (good = true → e.q ≤ raised 255 e.qual → t = { e with
      s := s, lock := .acquire, unlocked := true, qual := 0, lockRun := 0, vmatch := false, holdover := 0
      i := if e.lock = .free then 0 else e.i }))

/-- A line count of the other standard (R17). -/
def wrongLines (std : Standard) (n : Nat) : Bool :=
  match std with
  | .s625 => decide (n = 262 ∨ n = 263)
  | .s525 => decide (n = 312 ∨ n = 313)

/-- What the wrong-standard test of a verdict on n lines leaves of the run and the cause (R17). -/
def standardTested (std : Standard) (n : Nat) (parity : Parity) (c t : Classifier) : Prop :=
  (wrongLines std n = true → t.wrongRun = raised 4 c.wrongRun ∧ t.mismatch = (c.mismatch || decide (raised 4 c.wrongRun = 4))) ∧
  (wrongLines std n = false → t.wrongRun = 0 ∧ t.mismatch = (c.mismatch && decide (n ≠ fieldLength std parity)))

/-- The reports of the wrong-standard test of a verdict on n lines, from the classifier before it (R17). -/
def standardPosts (std : Standard) (n : Nat) (parity : Parity) (c : Classifier) : List Post :=
  if wrongLines std n ∧ raised 4 c.wrongRun = 4 ∧ c.mismatch = false then [⟨0, .standardMismatch, 0, BitVec.ofNat 16 n⟩]
  else if n = fieldLength std parity ∧ c.mismatch = true then [⟨0, .standardOk, 0, BitVec.ofNat 16 n⟩]
  else []

/-! ## The field start and the line start of the clock -/

/-- The part with the swap and the keyer state pending at a field start applied (R99, R107), and all else as it stood. -/
def State.begun (s : State) : State :=
  { s with
    banks := match s.banks.swap with
      | none => s.banks
      | some copy => { (if copy then s.banks.setWindows s.banks.live (s.banks.windows s.banks.live.other) else s.banks) with
          live := s.banks.live.other, swap := none }
    mixer := { s.mixer with keyer := s.mixer.keyerNext.getD s.mixer.keyer, keyerNext := none } }

/-- The report of the swap performed at a field start (R107). -/
def swapPosts (s : State) : List Post :=
  match s.banks.swap with
  | none => []
  | some copy => [⟨2, .bankLive, BitVec.ofNat 8 s.banks.live.other.code, if copy then 1 else 0⟩]

/-- The report of the keyer state applied at a field start (R99). -/
def keyerPosts (s : State) : List Post :=
  match s.mixer.keyerNext with
  | none => []
  | some v => [⟨2, .keyerChanged, if v then 1 else 0, if s.mixer.keyer then 1 else 0⟩]

/-- The reports of the swap and of the keyer state applied at a field start. -/
def begunPosts (s : State) : List Post := swapPosts s ++ keyerPosts s

/-- What a generated field start of the given parity does, with the body of the request within it: the count, the parity and
the field sync (R44, R46); the swap and the keyer state pending before it (R99, R107); the request between that performance
and the walk (R108); the walk with the new count (R138); the generators' steps at the walk's end (R112, R150); and the reports
of all of them in the CUE queue, each FADE_END behind those of the walk, and BANK_LIVE, or KEYER_CHANGED, before them where the
bank unit, or the mixer, executes the request between its performance and the walk. -/
def fieldStarted (s t : State) (p : Parity) (between : List Byte) : Prop :=
  let count := s.timing.load.getD (s.timing.count + 1)
  let mid := s.begun.takeBetween between
  let w := mid.walk count
  (t.timing.parity = p ∧ t.timing.count = count ∧ t.timing.load = none ∧ t.timing.fieldSync = some 3) ∧
  (t.banks.live = (if s.banks.swap.isSome then s.banks.live.other else s.banks.live) ∧
    t.banks.windows t.banks.live = s.banks.windows t.banks.live ∧
    (between = [] → t.banks.windows t.banks.live.other =
      (if s.banks.swap = some true then s.banks.windows t.banks.live else s.banks.windows t.banks.live.other)) ∧
    t.mixer.keyer = s.mixer.keyerNext.getD s.mixer.keyer) ∧
  t.link = mid.link ∧
  (t.banks = w.1.banks ∧ t.mixer.keyerNext = w.1.mixer.keyerNext ∧ t.cues = w.1.cues ∧
    ∀ g : Fin 4, t.fades[g] = (w.1.fades[g]).endWalk.1) ∧
  (∀ copy : Bool, between = [0x36, BitVec.ofNat 8 (boolCode copy)] → s.takes 0x36 [BitVec.ofNat 8 (boolCode copy)] →
    t.link.rx = .closed ∧ t.link.reply = replyFrame [0x36, 0, BitVec.ofNat 8 t.banks.live.code, 1] ∧
    t.banks.swap = some copy) ∧
  (let walk := w.2.filter fun r => r.queue = 2
   let fade := fun g : Fin 4 => fadePosts w.1.fades g
   let all := begunPosts s ++ walk ++ fade 0 ++ fade 1 ++ fade 2 ++ fade 3
   (s.reports.queues[(2 : Fin 4)]).length + all.length ≤ 24 →
   ∃ rs : List Report, t.reports.queues[(2 : Fin 4)] = s.reports.queues[(2 : Fin 4)] ++ rs ∧
     rs.Perm (recordsOf count all) ∧ (∀ g, (recordsOf count (walk ++ fade g)).Sublist rs) ∧
     ∀ (kind : Byte) (params : List Byte), between = kind :: params → s.takes kind params →
       (kind = 0x34 ∨ kind = 0x35 ∨ kind = 0x36 ∨ kind = 0x37 →
         ∀ g, (recordsOf count (swapPosts s ++ walk ++ fade g)).Sublist rs) ∧
       (kind = 0x33 ∨ kind = 0x38 → ∀ g, (recordsOf count (keyerPosts s ++ walk ++ fade g)).Sublist rs))

/-- The slots (R66, R71): no two FILLED slots hold one key, the shown slot is the one SHOWN slot, a slot being sampled is not
FREE, a FREE slot is cleared, and the samples are in canonical form. -/
def Store.slotsOk (st : Store) : Prop :=
  (∀ i j, st.role i = .filled → st.role j = .filled → (st.slots[i]).key = (st.slots[j]).key → i = j) ∧
  (∀ i, st.role i = .shown ↔ st.shown = some i) ∧
  (∀ sp, st.sampling = some sp → st.role sp.slot ≠ .free) ∧
  (∀ i, st.role i = .free → st.slots[i] = Slot.cleared) ∧
  (∀ i : Fin 8, Samples.wf (st.slots[i]).samples = true)

/-- Lock state and its followers (R49, R68, R88): the store is active exactly in ACQUIRE and LOCKED, an idle store has every
slot FREE, the mixer has recorded the state, and the UNLOCKED cause is that of the state. -/
def State.lockOk (s : State) : Prop :=
  (s.store.active = true ↔ s.engine.lock = .acquire ∨ s.engine.lock = .locked) ∧
  (s.store.active = false → (∀ i, s.store.role i = .free) ∧ s.store.shown = none ∧ s.store.sampling = none) ∧
  s.mixer.recorded = s.engine.lock ∧
  (s.engine.unlocked = true ↔ s.engine.lock = .free ∨ s.engine.lock = .acquire ∨ s.engine.lock = .holdover)

/-- The store's read at a generated line start with the given key and the sample of the tick (R71 to R74, R76), and the
line-1 result kept and handed to the lock engine (R53, R78), the store being active as the lock state has it. -/
def lineRead (s t : State) (k : Key) (ref : Sample) : Prop :=
  t.store.hLine = s.store.h ∧
  (s.lockOk → s.store.active = false → t.store.active = false ∧ t.store.lineOne = s.store.lineOne ∧
    (s.store.slotsOk → t.store = { s.store with hLine := s.store.h })) ∧
  (s.lockOk → s.store.active = true →
    let r := s.storeLookUp k
    let result : LineOne := if r.2 then .hit else .miss
    t.store = ({ r.1.store with
      hLine := s.store.h
      lineOne := if k.line = 1 then some result else s.store.lineOne }).sampleTick s.stamp ref ∧
    (s.engine.lock = .locked → k.line = 1 → r.2 = true → t.engine.lock = .locked ∧ t.engine.missRun = 0) ∧
    (s.engine.lock = .locked → k.line = 1 → r.2 = false → s.engine.missRun = 0 →
      t.engine.lock = .locked ∧ t.engine.missRun = 1) ∧
    (s.engine.lock = .locked → k.line = 1 → r.2 = false → 1 ≤ s.engine.missRun →
      t.engine.lock = .acquire ∧ t.engine.missRun = 0 ∧ t.engine.dropRun = 0 ∧ t.engine.lockRun = 0 ∧
      t.engine.vmatch = false) ∧
    (s.engine.lock = .locked → k.line ≠ 1 → t.engine.lock = .locked ∧ t.engine.missRun = s.engine.missRun))

/-- What a generated line start leaves in each unit besides the key (R24, R25, R42, R46, R85, R89): the pixel counter at 0, line
sync, the stamp in the history, the line context loaded from the stored settings and the recorded lock state, and the pixels
that wait belonging to the line before. -/
def lineBegun (s t : State) : Prop :=
  t.timing.pixel = 0 ∧ t.timing.newField = false ∧ t.timing.lineSync = some (s.timing.lpix / 16) ∧
  t.engine.history = ((s.stamp - BitVec.ofNat 24
    (16 * (s.timing.acc.toNat + s.engine.k - 2 ^ 32) / s.engine.k)) :: s.engine.history).take 3 ∧
  t.mixer.ctx = ⟨s.mixer.table, s.mixer.matte, s.mixer.policy, match t.mixer.recorded with
    | .acquire | .locked => .store
    | .free | .holdover | .internal => .matte⟩ ∧
  t.mixer.prevCtx = s.mixer.ctx ∧ t.mixer.edits = false ∧
  ∀ q ∈ t.mixer.pipeline, q.before = true ∨ (q.key = t.timing.key ∧ q.x = 0)

/-- What a natural field start does in the lock engine (R55), the stamp of a line start apart: HOLDOVER counts the field down,
and at 0 the engine enters FREE with its reports, which stand alone in the LOCK queue when no cue is armed. -/
def holdoverCounted (s t : State) : Prop :=
  let e := s.engine
  let after := { t.engine with history := e.history }
  (e.lock = .holdover → 2 ≤ e.holdover → after = { e with holdover := e.holdover - 1 }) ∧
  (e.lock = .holdover → e.holdover = 1 →
    after = { e with lock := .free, unlocked := true, atLimit := false, holdover := 0, k := e.k0, i := 0, s := 0 } ∧
    (s.cues.armed = [] → (s.reports.queues[(0 : Fin 4)]).length ≤ 22 →
      t.reports.queues[(0 : Fin 4)] = s.reports.queues[(0 : Fin 4)] ++
        recordsOf t.timing.count (changePosts .holdover .free true e.atLimit)))

/-! ## The pixel of a carry -/

/-- The store as a generated line start with the given key leaves it to the pixels of the line (R72 to R74, R76). -/
def State.presents (s : State) (k : Key) : Store :=
  { (if s.store.active = true then (s.storeLookUp k).1.store else s.store) with hLine := s.store.h }

/-- The output of the part for a pixel and the index that is paired with it, in the line context that serves it (R88, R92 to
R97): the colour of the index over the store output or the matte, each component held to its legal range; a pixel so limited
latches CLIP and is kept as the last clip, KEY above level 0 and VIDEO at it. -/
def pixelFormed (s t : State) (q : Pixel) (ctx : LineContext) (index : BitVec 4) : Prop :=
  let entry := ctx.table[index.toFin]
  let video := match ctx.source with
    | .store => q.video
    | .matte => ctx.matte
  let key := q.keyLevel ctx entry.cls
  let raw := mixSample video entry.colour key.1 key.2
  let legal := (16 ≤ raw.1 ∧ raw.1 ≤ 235) ∧ (16 ≤ raw.2.1 ∧ raw.2.1 ≤ 240) ∧ (16 ≤ raw.2.2 ∧ raw.2.2 ≤ 240)
  (t.mixer.output.pixel.y.toNat : Int) = max 16 (min 235 raw.1) ∧
  (t.mixer.output.pixel.cb.toNat : Int) = max 16 (min 240 raw.2.1) ∧
  (t.mixer.output.pixel.cr.toNat : Int) = max 16 (min 240 raw.2.2) ∧
  (legal → t.mixer.clip = s.mixer.clip) ∧
  (¬legal → t.mixer.clip = some ⟨if 0 < key.1 then .key else .video, q.key, q.count⟩ ∧ t.reports.latched.getLsbD 4 = true)

/-- What a pixel clock makes (R75, R89 to R91), `waiting` being the pixels that wait for their index and `store` what is read:
the pixel at the generator's position joins them with the values of its moment; the index is paired with the oldest once more
than latency pixels wait, and black stands until then; the output syncs are those of latency pixel clocks before. Whether the
pixel sees the sample of its own tick is open (log 12). -/
def pixelMade (s t : State) (index : BitVec 4) (ref : Sample) (waiting : List Pixel) (store : Store) : Prop :=
  ∃ video : Sample,
    (video = store.output s.timing.standard s.timing.lpix t.timing.pixel ∨
      video = (store.sampleTick s.stamp ref).output s.timing.standard s.timing.lpix t.timing.pixel) ∧
    let p : Pixel := ⟨t.timing.key, t.timing.pixel, t.timing.count, t.mixer.keyer, t.banks.liveWindows, fadeLevels t.fades,
      video, false⟩
    (waiting.length + 1 ≤ s.timing.latency →
      t.mixer.output.pixel = Sample.black ∧ t.mixer.pipeline = waiting ++ [p] ∧ t.mixer.clip = s.mixer.clip) ∧
    (∀ (q : Pixel) (rest : List Pixel), waiting ++ [p] = q :: rest → s.timing.latency ≤ rest.length →
      t.mixer.pipeline = rest ∧ pixelFormed s t q (if q.before = true then t.mixer.prevCtx else t.mixer.ctx) index) ∧
    (s.timing.latency = 0 → waiting = [] → t.mixer.pipeline = [] ∧ pixelFormed s t p t.mixer.ctx index) ∧
    (∀ (line field : Bool) (rest : List (Bool × Bool)), s.mixer.syncDelay.length = s.timing.latency →
      s.mixer.syncDelay ++ [(t.timing.lineSync.isSome, t.timing.fieldSync.isSome)] = (line, field) :: rest →
      t.mixer.output.lineSync = line ∧ t.mixer.output.fieldSync = field ∧ t.mixer.syncDelay = rest)

/-! ## What the commands leave -/

/-- What a command of the reference input leaves as it stands: the stamp counter, the position in the frame with every count of
the timing generator but the jam countdown, the mixer but for the recorded lock state, the title half, the link. -/
def referenceKeeps (s t : State) : Prop :=
  t.stamp = s.stamp ∧ t.timing = { s.timing with jam := t.timing.jam } ∧
  t.mixer = { s.mixer with recorded := t.mixer.recorded } ∧ t.banks = s.banks ∧ t.fades = s.fades ∧ t.cues = s.cues ∧
  t.link = s.link ∧ t.store.d = s.store.d ∧ t.store.h = s.store.h

/-- What a carrying tick leaves as it stands: the reference input and the classifier, the settings of the timing, the stored
settings of the mixer and the store, the enables of the report unit; and what every carrying tick moves: the stamp counter by one
tick, and the accumulator by K, the carry dropped. -/
def clockKeeps (s t : State) : Prop :=
  t.stamp = s.stamp + 16 ∧ t.timing.acc = BitVec.ofNat 32 (s.timing.acc.toNat + s.engine.k) ∧
  t.timing.restartPending = false ∧
  (t.reports.condEnables, t.reports.queueEnables) = (s.reports.condEnables, s.reports.queueEnables) ∧ t.pulse = s.pulse ∧ t.classifier = s.classifier ∧
  (t.timing.standard, t.timing.lpix, t.timing.mode, t.timing.latency) =
    (s.timing.standard, s.timing.lpix, s.timing.mode, s.timing.latency) ∧
  (t.mixer.table, t.mixer.matte, t.mixer.policy) = (s.mixer.table, s.mixer.matte, s.mixer.policy) ∧
  (t.store.d, t.store.h, t.store.seq) = (s.store.d, s.store.h, s.store.seq)

/-! ## The time of a command (log 8) -/

/-- Whether an expiry comes at its time by the stamp counter: the candidate's lifetime (R3), the closing of the wide window
(R5, R9), the byte gap (R170). The model takes the first two when they are commanded, and a run that means to follow the clock
sends them when this holds; the byte gap it tests itself. -/
def State.onTime (s : State) : Instr → Prop
  | .candidateExpiry =>
    ∃ c, s.classifier.candidate = some c ∧
      lnom s.timing.standard + lnom s.timing.standard / 20 ≤ (s.stamp - c).toNat
  | .wideWindowClose => ∃ p, s.classifier.prediction = some p ∧ (16 * p.ww : Nat) ≤ stampDiff s.stamp p.stamp
  | .frameTimeout => s.gapIsOver = true
  | _ => True

/-! ## What every step keeps -/

/-- Report unit (R155, R160, R165): queues of at most 24 records, every condition latched whose cause holds, ATTN exact. -/
def State.reportsOk (s : State) : Prop :=
  (∀ q : Fin 4, (s.reports.queues[q]).length ≤ 24) ∧
  (∀ n, s.causes.getLsbD n = true → s.reports.latched.getLsbD n = true) ∧
  (s.reports.attn = true ↔
    (∃ n, s.reports.latched.getLsbD n = true ∧ s.reports.condEnables.getLsbD n = true) ∨
    (∃ q : Fin 4, s.reports.queueEnables.getLsbD q = true ∧ s.reports.queues[q] ≠ []))

/-- Classifier and lock engine (R4, R10, R54): REF_ABSENT holds exactly in SEARCH, where nothing is numbered and the lock
state is neither ACQUIRE nor LOCKED. -/
def State.trackingOk (s : State) : Prop :=
  (s.classifier.refAbsent = true ↔ s.classifier.tracking = .search) ∧
  (s.classifier.tracking = .search →
    s.classifier.numbering = .unnumbered ∧ s.engine.lock ≠ .acquire ∧ s.engine.lock ≠ .locked)

/-- The counts and the average of the classifier, and the line number below the flywheel limit (Table 1-B; R4, R11, R14). -/
def State.classifierOk (s : State) : Prop :=
  s.classifier.synthCount ≤ 63 ∧ s.classifier.badCount ≤ 255 ∧ s.classifier.wrongRun ≤ 4 ∧
  ((s.classifier.lavg : Int) - lnom s.timing.standard).natAbs ≤ 3 * lnom s.timing.standard / 100 ∧
  (8 ≤ s.classifier.wn ∧ s.classifier.wn ≤ 128 ∧ s.classifier.wn ≤ s.classifier.ww ∧ s.classifier.ww ≤ 768 ∧
    4 ≤ s.classifier.nloss ∧ s.classifier.nloss ≤ 63 ∧ s.classifier.b ≤ 31) ∧
  ∀ k, s.classifier.numbering = .numbered k →
    1 ≤ k.line ∧ k.line < s.classifier.flywheelLimit s.timing.standard k.parity

/-- The loop (R22, R28, R30, R33; Table 2-H): K0 and Kspan follow from the settings, and K, I, S and e stay in their ranges. -/
def State.loopOk (s : State) : Prop :=
  (320 ≤ s.timing.lpix ∧ s.timing.lpix ≤ 1400) ∧
  s.engine.k0 = nominalIncrement s.timing.standard s.timing.lpix ∧
  s.engine.kspan = s.engine.k0 / 64 ∧
  (s.engine.k0 ≤ s.engine.k + s.engine.kspan ∧ s.engine.k ≤ s.engine.k0 + s.engine.kspan) ∧
  s.engine.i.natAbs ≤ s.engine.kspan ∧
  s.engine.s.natAbs ≤ 8191 ∧ (s.engine.profile = .broadcast → s.engine.s = 0) ∧
  s.engine.e.natAbs ≤ 4095 ∧ s.engine.history.length ≤ 3

/-- The position in the frame (R42, R43): outside a timing restart the pixel counter is below Lpix, the line number is one
of its field's, and the line has the running field's parity unless a field start has come since the line start. -/
def State.positionOk (s : State) : Prop :=
  320 ≤ s.timing.lpix ∧
  (s.timing.restartPending = true ∨
    (s.timing.pixel < s.timing.lpix ∧ 1 ≤ s.timing.key.line ∧
      s.timing.key.line ≤ fieldLength s.timing.standard s.timing.key.parity ∧
      (s.timing.newField = false → s.timing.key.parity = s.timing.parity)))

/-- A colour within the legal ranges (spec/00, 4.4.01). -/
def legal (c : Sample) : Prop :=
  (16 ≤ c.y.toNat ∧ c.y.toNat ≤ 235) ∧ (16 ≤ c.cb.toNat ∧ c.cb.toNat ≤ 240) ∧ (16 ≤ c.cr.toNat ∧ c.cr.toNat ≤ 240)

/-- A line context within the legal ranges (R84, R86). -/
def LineContext.ok (c : LineContext) : Prop := (∀ i : Fin 16, legal (c.table[i]).colour) ∧ legal c.matte

/-- The mixer (R84, R86, R89, R97, R98): stored and serving colours legal, the output pixel legal, at most 15 pixels waiting,
and a pending keyer state that differs from the keyer state. -/
def Mixer.ok (m : Mixer) : Prop :=
  (∀ i : Fin 16, legal (m.table[i]).colour) ∧ legal m.matte ∧ m.ctx.ok ∧ m.prevCtx.ok ∧ legal m.output.pixel ∧
  m.pipeline.length ≤ 15 ∧ m.keyerNext ≠ some m.keyer

/-- The mixer with the latency that bounds its pipeline (R63, R89). -/
def State.mixerOk (s : State) : Prop := s.timing.latency ≤ 15 ∧ s.mixer.ok

/-- A level source within its range (Table 6-B). -/
def LevelSource.ok : LevelSource → Prop
  | .fixed l => l ≤ 256
  | .gen _ => True

/-- A window record within the ranges of Table 6-B (R102). -/
def Window.ok (w : Window) : Prop :=
  (1 ≤ w.top ∧ w.top ≤ 313) ∧ (1 ≤ w.bottom ∧ w.bottom ≤ 313) ∧ w.left ≤ 2047 ∧ w.right ≤ 2047 ∧ w.level.ok

/-- Every stored window is within its ranges (R102). -/
def Banks.ok (b : Banks) : Prop := ∀ n i, ((b.windows n)[(i : Fin 8)]).ok

/-- Bounds and step that a load accepts (R116). -/
def fadeRange (kind : FadeKind) (level : Nat) (step : Int) (lo hi : Nat) : Prop :=
  (lo ≤ level ∧ level ≤ hi ∧ hi ≤ 65536) ∧ (-32768 ≤ step ∧ step ≤ 32767) ∧
  (kind = .wrap → step.natAbs < hi - lo + 1) ∧ (kind = .bounce → step.natAbs ≤ hi - lo ∧ step ≠ -32768)

/-- A generator between two events (R111, R112): its level within its bounds, its step one that its kind takes, its walk mark
clear. -/
def Fade.ok (f : Fade) : Prop := fadeRange f.kind f.level f.step f.lo f.hi ∧ f.mark = false

/-- The parameters of a stored FADE action pass the checks of a load (R123). -/
def CueAction.ok : CueAction → Prop
  | .fade _ p => fadeRange p.kind p.level p.step p.lo p.hi
  | _ => True

/-- The generators and the loads that cues hold (R111, R123). -/
def State.fadesOk (s : State) : Prop :=
  (∀ g : Fin 4, (s.fades[g]).ok) ∧ ∀ i : Fin 64, (s.cues.records[i]).content.action.ok

/-- The cue pool (R124, R134): every index on exactly one list and once on it, and no cue on FREE pending. -/
def CuePool.ok (p : CuePool) : Prop :=
  (p.free ++ p.armed ++ p.held ++ p.done).Perm (List.finRange 64) ∧
  ∀ i : Fin 64, i ∈ p.free → (p.records[i]).pending = false

/-- The link controller (Table 10-A; R168, R170, R171, R176): a partial frame with the timer running exactly in the middle
of a frame, and the reply of a closed period. -/
def Link.ok (l : Link) : Prop :=
  l.closedCount ≤ 65535 ∧ (l.restartAwaits = true → l.rx = .closed) ∧
  match l.rx with
  | .hunting => l.frame = none ∧ l.timer = none ∧ l.reply = []
  | .awaitLength => l.frame = none ∧ l.timer.isSome = true ∧ l.reply = []
  | .inBody => (∃ f, l.frame = some f ∧ lengthOk f.length = true ∧ f.body.length < f.length.toNat) ∧
      l.timer.isSome = true ∧ l.reply = []
  | .awaitCheck => (∃ f, l.frame = some f ∧ lengthOk f.length = true ∧ f.body.length = f.length.toNat) ∧
      l.timer.isSome = true ∧ l.reply = []
  | .closed => l.frame = none ∧ l.timer = none ∧ l.reply ≠ []

end Sys2Proof.Machine
end

