-- ==== Sys2Proof/Certificates/Slice0/Obligations.lean ====
section
/-! DEFINITION. The statements for the provers. Each names what it states; OBLIGATIONS.json gives the rule or the section of
spec/ behind it. `State.replied` is the state with the reply of a request formed and the report unit's judgement made. -/

open Sys2Proof Sys2Proof.Machine

/-! ## The step and the commands as a whole -/

/-- A step executes the command at the front of the queue on the state with the queue's rest. -/
def Obligations.StepRunsFrontCommand : Prop :=
  ∀ (c : Instr) (rest : List Instr) (s : State), s.pending = c :: rest → step s = exec c (s.setPending rest)

/-- No command stops the block, and no command touches the queue; with an empty queue the block idles (log 15). -/
def Obligations.EveryCommandAnswersNextAndKeepsQueue : Prop :=
  (∀ (c : Instr) (s : State), ∃ t : State, exec c s = .next t ∧ t.pending = s.pending) ∧
  ∀ s : State, s.pending = [] → step s = .next s

/-- POWER_ON gives every unit its power-on state and reads the rate from the straps; the draw counter and the queue are the
model's own (log 10, 15). -/
def Obligations.PowerOnGivesPowerOnStateAndStrapRate : Prop :=
  (∀ (r0 r1 : Bool) (s : State), exec (.powerOn r0 r1) s =
    .next { State.reset with
      link := { Link.reset with rate := strapRate r0 r1 }, draw := s.draw, pending := s.pending }) ∧
  strapRate false false = .b19200 ∧ strapRate true false = .b38400 ∧ strapRate false true = .b57600 ∧
  strapRate true true = .b115200

/-- The values that Tables 1-B, 2-E, 2-H, 3-A, 3-B, 4-A, 5-A, 6-A, 6-D, 9-A and 10-A and R137 give at power-on. -/
def Obligations.ResetHoldsPowerOnValues : Prop :=
  ((let c := State.reset.classifier
   c.tracking = .search ∧ c.candidate = none ∧ c.lavg = 24576 ∧ c.anchor = none ∧ c.prediction = none ∧ c.midLine = false ∧
   c.syncRun = false ∧ c.numbering = .unnumbered ∧ c.synthCount = 0 ∧ c.badCount = 0 ∧ c.previous = none ∧
   c.startSynthetic = false ∧ c.verdict = none ∧ c.flywheel = false ∧ c.wrongRun = 0 ∧ c.refAbsent = true ∧
   c.mismatch = false ∧ (c.wn, c.ww, c.nloss, c.b) = (48, 384, 12, 4)) ∧
  (let e := State.reset.engine
   e.k0 = 2147483648 ∧ e.kspan = 33554432 ∧ e.k = e.k0 ∧ e.i = 0 ∧ e.s = 0 ∧ e.e = 0 ∧ e.atLimit = false ∧ e.a = 0 ∧
   e.profile = .broadcast ∧ e.gains = ⟨⟨2, 6⟩, ⟨4, 10⟩, ⟨3, 8⟩, ⟨7, 16⟩⟩ ∧ e.history = [] ∧ e.lock = .free ∧
   (e.qual, e.lockRun, e.dropRun, e.missRun, e.holdover) = (0, 0, 0, 0, 0) ∧ e.vmatch = false ∧ e.unlocked = true ∧
   (e.q, e.hmax) = (10, 500) ∧ (e.wLock, e.wDrop, e.nLock, e.nUnlock) = (48, 512, 128, 24)) ∧
  (let t := State.reset.timing
   t.standard = .s625 ∧ t.lpix = 768 ∧ t.mode = .interlaced ∧ t.latency = 0 ∧ t.pixel = 0 ∧ t.key = ⟨.one, 1⟩ ∧
   t.parity = .one ∧ t.count = 0 ∧ t.load = none ∧ t.jam = none ∧ t.frameRestart = true ∧ t.lineSync = none ∧
   t.fieldSync = none ∧ t.acc = 0)) ∧
  ((let st := State.reset.store
   st.active = false ∧ (∀ i, st.role i = .free) ∧ st.seq = 0 ∧ st.shown = none ∧ st.sampling = none ∧ st.lineOne = none ∧
   st.d = 3 ∧ st.h = 0) ∧
  (let m := State.reset.mixer
   (∀ i : Fin 16, m.table[i] = ⟨⟨16, 128, 128⟩, .clear⟩) ∧ m.matte = ⟨16, 128, 128⟩ ∧ m.policy = .hide ∧ m.edits = false ∧
   m.ctx = ⟨m.table, m.matte, m.policy, .matte⟩ ∧ m.prevCtx = m.ctx ∧ m.keyer = false ∧ m.keyerNext = none ∧
   m.recorded = .free ∧ m.pipeline = [] ∧ m.clip = none) ∧
  (let b := State.reset.banks
   b.live = .a ∧ b.swap = none ∧ ∀ i : Fin 8, b.a[i] = Window.cleared ∧ b.b[i] = Window.cleared) ∧
  (∀ g : Fin 4, State.reset.fades[g] = ⟨false, .stop, 0, 0, 0, 65536, false⟩) ∧
  (let p := State.reset.cues
   (∀ i : Fin 64, p.records[i] = ⟨⟨0, 0, false, some 2, 0, .mark⟩, false⟩) ∧ p.free = List.finRange 64 ∧ p.armed = [] ∧
   p.held = [] ∧ p.done = []) ∧
  (let r := State.reset.reports
   (∀ q : Fin 4, r.queues[q] = []) ∧ (∀ n, r.latched.getLsbD n = true ↔ n = 0 ∨ n = 2) ∧ r.condEnables = 0 ∧
   r.queueEnables = 0 ∧ r.attn = false) ∧
  (let l := State.reset.link
   l.rx = .hunting ∧ l.frame = none ∧ l.timer = none ∧ l.closedKind = 0 ∧ l.closedCount = 0))

/-- The state after power-on has every property that the steps are claimed to keep. -/
def Obligations.ResetHasEveryKeptProperty : Prop :=
  State.reset.reportsOk ∧ State.reset.lockOk ∧ State.reset.trackingOk ∧ State.reset.classifierOk ∧
  State.reset.store.slotsOk ∧ State.reset.loopOk ∧ State.reset.positionOk ∧ State.reset.mixerOk ∧ State.reset.banks.ok ∧
  State.reset.fadesOk ∧ State.reset.cues.ok ∧ State.reset.link.ok

/-! ## What every step keeps -/

/-- Queues hold at most 24 reports, a condition whose cause holds is latched, and ATTN is exact. -/
def Obligations.StepKeepsReportsAndAttnExact : Prop :=
  ∀ s t : State, s.reportsOk → step s = .next t → t.reportsOk

/-- The store is active exactly in ACQUIRE and LOCKED and empty otherwise; mixer and UNLOCKED cause follow the lock state. -/
def Obligations.StepKeepsStoreAndMixerWithLockState : Prop :=
  ∀ s t : State, s.lockOk → step s = .next t → t.lockOk

/-- ACQUIRE and LOCKED only in TRACK; REF_ABSENT exactly in SEARCH. -/
def Obligations.StepKeepsLockedOnlyInTrack : Prop :=
  ∀ s t : State, s.trackingOk → step s = .next t → t.trackingOk

/-- The classifier's counts, average and line number stay in their ranges. -/
def Obligations.StepKeepsClassifierRanges : Prop :=
  ∀ s t : State, s.classifierOk → step s = .next t → t.classifierOk

/-- No two FILLED slots hold one key, at most one slot is SHOWN, and the samples keep their canonical form. -/
def Obligations.StepKeepsStoreSlots : Prop :=
  ∀ s t : State, s.store.slotsOk → step s = .next t → t.store.slotsOk

/-- K, I, S and the phase error stay in their ranges about the K0 of the settings. -/
def Obligations.StepKeepsLoopRanges : Prop :=
  ∀ s t : State, s.loopOk → step s = .next t → t.loopOk

/-- The position in the frame stays one that the raster has. -/
def Obligations.StepKeepsPositionInFrame : Prop :=
  ∀ s t : State, s.positionOk → step s = .next t → t.positionOk

/-- Every output pixel and every colour in use stays legal; every stored window stays in its ranges. -/
def Obligations.StepKeepsMixerLegalAndWindowsInRange : Prop :=
  ∀ s t : State, step s = .next t → (s.mixerOk → t.mixerOk) ∧ (s.banks.ok → t.banks.ok)

/-- Each generator's level stays within its bounds, and every stored load passes the checks of FADE LOAD. -/
def Obligations.StepKeepsFadeLevelsInBounds : Prop :=
  ∀ s t : State, s.fadesOk → step s = .next t → t.fadesOk

/-- Every cue index is on exactly one list, and no cue on FREE is pending. -/
def Obligations.StepKeepsCueListsPartition : Prop :=
  ∀ s t : State, s.cues.ok → step s = .next t → t.cues.ok

/-- The receive state, the partial frame, the timer and the reply stay in step. -/
def Obligations.StepKeepsLinkReception : Prop :=
  ∀ s t : State, s.link.ok → step s = .next t → t.link.ok

/-! ## Reports and conditions -/

/-- A posted report carries the field count standing; it joins the tail of a queue with room, and is discarded by a full
one, which latches the queue's overrun; nothing else changes. -/
def Obligations.PostJoinsTailOrLatchesOverrun : Prop :=
  ∀ (s : State) (p : Post),
    s.post p = s.setReports (s.post p).reports ∧
    ((s.reports.queues[p.queue]).length < 24 →
      (s.post p).reports = { s.reports with
        queues := s.reports.queues.set p.queue
          (s.reports.queues[p.queue] ++ [⟨p.kind, s.timing.count, p.argA, p.argB⟩]) }) ∧
    (24 ≤ (s.reports.queues[p.queue]).length →
      (s.post p).reports.queues = s.reports.queues ∧ (s.post p).reports.condEnables = s.reports.condEnables ∧
      (s.post p).reports.queueEnables = s.reports.queueEnables ∧ (s.post p).reports.attn = s.reports.attn ∧
      ∀ n, (s.post p).reports.latched.getLsbD n = (s.reports.latched.getLsbD n || decide (n = 7 + p.queue.val)))

/-- PEEK shows and TAKE removes the oldest record; FLUSH removes every record; an empty queue and a queue index above 3 are
answered with their statuses and change nothing else. -/
def Obligations.QueueRequestsShowTakeAndFlush : Prop :=
  ∀ (s : State) (v : Byte), s.reportsOk →
    (s.takes 0x60 [v] →
      (4 ≤ v.toNat → exec (.reportPeek [v]) s = .next (s.close 0x60 [0x60, 3])) ∧
      (∀ q : Fin 4, v.toNat = q.val → s.reports.queues[q] = [] →
        exec (.reportPeek [v]) s = .next (s.close 0x60 [0x60, 7])) ∧
      (∀ (q : Fin 4) (r : Report) (rest : List Report), v.toNat = q.val → s.reports.queues[q] = r :: rest →
        exec (.reportPeek [v]) s =
          .next (s.close 0x60 (0x60 :: 0 :: r.bytes ++ [BitVec.ofNat 8 (rest.length + 1)])))) ∧
    (s.takes 0x61 [v] →
      (4 ≤ v.toNat → exec (.reportTake [v]) s = .next (s.close 0x61 [0x61, 3])) ∧
      (∀ q : Fin 4, v.toNat = q.val → s.reports.queues[q] = [] →
        exec (.reportTake [v]) s = .next (s.close 0x61 [0x61, 7])) ∧
      (∀ (q : Fin 4) (r : Report) (rest : List Report), v.toNat = q.val → s.reports.queues[q] = r :: rest →
        exec (.reportTake [v]) s =
          .next ((s.setReports { s.reports with queues := s.reports.queues.set q rest }).replied 0x61 .ok
            (r.bytes ++ [BitVec.ofNat 8 rest.length])))) ∧
    (s.takes 0x62 [v] →
      (4 ≤ v.toNat → exec (.reportFlush [v]) s = .next (s.close 0x62 [0x62, 3])) ∧
      (∀ q : Fin 4, v.toNat = q.val →
        exec (.reportFlush [v]) s =
          .next ((s.setReports { s.reports with queues := s.reports.queues.set q [] }).replied 0x62 .ok
            [BitVec.ofNat 8 (s.reports.queues[q]).length])))

/-- CONDITIONS answers with the latched set and the causes before any clearing; the conditions named are cleared, those whose
causes hold latched again, the others left; ATTN is judged on what remains. -/
def Obligations.ConditionsReadsThenClears : Prop :=
  ∀ (s : State) (a b : Byte), s.reportsOk → s.takes 0x63 [a, b] →
    ∃ t : State, exec (.conditions [a, b]) s = .next t ∧
      t = (s.setReports t.reports).setLink t.link ∧
      t.link.rx = .closed ∧
      t.link.reply = replyFrame (0x63 :: 0 :: bytesOf 2 s.reports.latched.toNat ++ bytesOf 1 s.causes.toNat) ∧
      (∀ n, t.reports.latched.getLsbD n =
        ((s.reports.latched.getLsbD n && !(BitVec.ofNat 11 (256 * a.toNat + b.toNat)).getLsbD n) || s.causes.getLsbD n)) ∧
      t.reports.queues = s.reports.queues ∧ t.reports.condEnables = s.reports.condEnables ∧
      t.reports.queueEnables = s.reports.queueEnables ∧ t.reportsOk

/-- SET ATTENTION replaces both stored sets, ignores the unused bits, changes no flag and no queue, and ATTN is judged on the
new enables. -/
def Obligations.SetAttentionReplacesEnables : Prop :=
  ∀ (s : State) (a b q : Byte), s.reportsOk → s.takes 0x64 [a, b, q] →
    let conds := BitVec.ofNat 11 (256 * a.toNat + b.toNat)
    let queues := BitVec.ofNat 4 q.toNat
    ∃ t : State, exec (.setAttention [a, b, q]) s = .next t ∧
      t = (s.setReports t.reports).setLink t.link ∧
      t.link.rx = .closed ∧ t.link.reply = replyFrame (0x64 :: 0 :: bytesOf 2 conds.toNat ++ bytesOf 1 queues.toNat) ∧
      t.reports.condEnables = conds ∧ t.reports.queueEnables = queues ∧
      t.reports.latched = s.reports.latched ∧ t.reports.queues = s.reports.queues ∧ t.reportsOk

/-! ## The control link -/

/-- ECHO returns its parameters and changes nothing but the receiver, which closes for the reply; a body of N bytes gives a
reply of length N + 1. Every reply frame is the start byte, the length, the body and a check byte that makes all but the start
byte sum to 0. -/
def Obligations.EchoReturnsItsParametersInCheckedFrame : Prop :=
  (∀ (s : State) (ps : List Byte), s.reportsOk → s.takes 0x01 ps →
    exec (.echo ps) s = .next (s.close 0x01 (0x01 :: 0 :: ps)) ∧
    (s.close 0x01 (0x01 :: 0 :: ps)).link.reply = replyFrame (0x01 :: 0 :: ps) ∧
    (replyFrame (0x01 :: 0 :: ps))[1]? = some (BitVec.ofNat 8 ((ps.length + 1) + 1))) ∧
  ∀ body : List Byte,
    (∃ check, replyFrame body = 0xD5 :: BitVec.ofNat 8 body.length :: (body ++ [check])) ∧
    (replyFrame body).tail.foldl (· + ·) 0 = 0

/-- A received byte begins a frame, is its length, or joins its body, and restarts the byte-gap timer (25 ms by the stamp
counter, log 24); any other byte in HUNTING is ignored. -/
def Obligations.ReceivedByteFollowsReceiveState : Prop :=
  ∀ (s : State) (b : Byte),
    (s.link.rx = .hunting → b = 0xD4 →
      exec (.receivedByte b) s =
        .next (s.setLink { s.link with rx := .awaitLength, frame := none, timer := some (s.stamp + 9600000) })) ∧
    (s.link.rx = .hunting → b ≠ 0xD4 → exec (.receivedByte b) s = .next s) ∧
    (s.link.rx = .awaitLength → 1 ≤ b.toNat → b.toNat ≤ 96 →
      exec (.receivedByte b) s =
        .next (s.setLink { s.link with rx := .inBody, frame := some ⟨b, []⟩, timer := some (s.stamp + 9600000) })) ∧
    (∀ n body, s.link.rx = .inBody → s.link.frame = some ⟨n, body⟩ → body.length < n.toNat →
      exec (.receivedByte b) s =
        .next (s.setLink { s.link with
          rx := if body.length + 1 = n.toNat then .awaitCheck else .inBody
          frame := some ⟨n, body ++ [b]⟩
          timer := some (s.stamp + 9600000) }))

/-- The start byte, length, kind and parameters of a request taken byte by byte lead to the state in which its check byte
completes it, and the request then does what the same request does as a whole frame in HUNTING. -/
def Obligations.BytewiseFrameEqualsWholeFrame : Prop :=
  ∀ (s : State) (c : Instr) (kind : Byte) (shape : Option Nat) (ps : List Byte),
    requestShape c = some (kind, shape) → c.params = some ps → ps.length ≤ 95 → s.link.rx = .hunting →
    let t := s.receive (0xD4 :: BitVec.ofNat 8 (ps.length + 1) :: kind :: ps)
    t = s.setLink t.link ∧ t.takes kind ps ∧ t.link.rx = .awaitCheck ∧ exec c t = exec c s

/-- A bad length and a bad check are reported and answered BAD_FRAME; the expiry of the byte-gap timer, 25 ms or more after the
stamp `last` of the last byte, discards the frame, is reported with its stage and the bytes received, and latches LINK_FAULT. An
expiry sooner, or with the timer stopped, does nothing (the 25 ms in fine units, counted modulo 2^24: log 24). -/
def Obligations.FrameFaultsAreReported : Prop :=
  (∀ (s : State) (n : Byte), s.link.rx = .awaitLength → n.toNat = 0 ∨ 96 < n.toNat →
    exec (.badLength n) s =
      .next ((s.post ⟨3, .badFrame, 1, BitVec.ofNat 16 n.toNat⟩).replied 0 .badFrame [])) ∧
  (∀ (s : State) (n kind check : Byte) (ps : List Byte), s.link.rx = .awaitCheck → s.link.frame = some ⟨n, kind :: ps⟩ →
    (kind :: ps).foldl (· + ·) n + check ≠ 0 →
    exec (.badCheck check) s =
      .next ((s.post ⟨3, .badFrame, 2, BitVec.ofNat 16 (256 * kind.toNat + n.toNat)⟩).replied kind .badFrame [])) ∧
  (∀ (s : State) (last : Stamp), s.link.timer = some (last + 9600000) →
    let cut := s.setLink { s.link with rx := .hunting, frame := none, timer := none }
    (9600000 ≤ (s.stamp - last).toNat →
      (s.link.rx = .awaitLength →
        exec .frameTimeout s = .next (((cut.post ⟨3, .frameTimeout, 1, 0⟩).latch 6).settle)) ∧
      (∀ f, s.link.rx = .inBody → s.link.frame = some f →
        exec .frameTimeout s =
          .next (((cut.post ⟨3, .frameTimeout, 2, BitVec.ofNat 16 (1 + f.body.length)⟩).latch 6).settle)) ∧
      (∀ f, s.link.rx = .awaitCheck → s.link.frame = some f →
        exec .frameTimeout s =
          .next (((cut.post ⟨3, .frameTimeout, 3, BitVec.ofNat 16 (1 + f.body.length)⟩).latch 6).settle))) ∧
    ((s.stamp - last).toNat < 9600000 → exec .frameTimeout s = .next s)) ∧
  ∀ s : State, s.link.timer = none → exec .frameTimeout s = .next s

/-- A byte in a closed period is counted, the first of them latching LINK_FAULT, and the frame of a request that arrives then
is discarded byte by byte (taken as one command: log 9); the end of the reply opens the receiver and posts OVERLAP when bytes
had come. -/
def Obligations.ClosedPeriodDiscardsCountsAndReports : Prop :=
  ((∀ (s : State) (b : Byte), s.link.rx = .closed →
    let counted := s.setLink { s.link with closedCount := min 65535 (s.link.closedCount + 1) }
    exec (.closedByte b) s = .next (if s.link.closedCount = 0 then (counted.latch 6).settle else counted.settle)) ∧
  ∀ s : State, s.link.rx = .closed → s.link.restartAwaits = false →
    let opened := s.setLink { s.link with rx := .hunting, reply := [] }
    (s.link.closedCount = 0 → exec .replyEnd s = .next opened.settle) ∧
    (0 < s.link.closedCount →
      exec .replyEnd s =
        .next (opened.post ⟨3, .overlap, s.link.closedKind, BitVec.ofNat 16 s.link.closedCount⟩).settle)) ∧
  (∀ (s : State) (c : Instr) (kind : Byte) (shape : Option Nat) (ps : List Byte),
    requestShape c = some (kind, shape) → c.params = some ps → ps.length ≤ 95 → s.link.rx = .closed →
    let counted := s.setLink { s.link with closedCount := min 65535 (s.link.closedCount + (ps.length + 4)) }
    exec c s = .next (if s.link.closedCount = 0 then (counted.latch 6).settle else counted.settle))

/-- RESTART is answered OK with the part unchanged; when its reply has been sent every unit is in its power-on state and the
strap rate is kept. The stamp counter and a pulse in progress run on (log 1, 5). -/
def Obligations.RestartAnswersThenResets : Prop :=
  (∀ s : State, s.takes 0x02 [] →
    exec (.restart []) s = .next ((s.setLink { s.link with restartAwaits := true }).replied 0x02 .ok [])) ∧
  ∀ s : State, s.link.rx = .closed → s.link.restartAwaits = true →
    exec .restartTakesEffect s = .next { State.reset with
      link := { Link.reset with rate := s.link.rate }, stamp := s.stamp, pulse := s.pulse, draw := s.draw,
      pending := s.pending }

/-- A kind byte that names no request is answered UNKNOWN; a body of the wrong length is refused with BAD_PARAM; every request
that completes is answered, and one answered with a status other than OK leaves the part as it stood and carries no results. -/
def Obligations.RefusedRequestsChangeNothing : Prop :=
  ((∀ (s : State) (kind : Byte) (ps : List Byte), requestKinds.contains kind = false → s.takes kind ps →
    exec (.unknownRequest kind ps) s = .next (s.replied kind .unknown [])) ∧
  ∀ (s : State) (c : Instr) (kind : Byte) (n : Nat) (ps : List Byte),
    requestShape c = some (kind, some n) → c.params = some ps → ps.length ≠ n → s.takes kind ps →
    exec c s = .next (s.replied kind .badParam [])) ∧
  (∀ (s : State) (c : Instr) (kind : Byte) (shape : Option Nat) (ps : List Byte),
    requestShape c = some (kind, shape) → c.params = some ps → s.takes kind ps →
    ∃ (t : State) (status : Status) (results : List Byte),
      exec c s = .next (t.replied kind status results) ∧ (status ≠ .ok → t = s ∧ results = []))

/-! ## Settings and queries of the lock half -/

/-- SET PROFILE, SET GAINS and SET ADVANCE: the value stored, clamped where it is a number, and everything else kept; a
change to BROADCAST clears S. -/
def Obligations.LoopSettingsAreStored : Prop :=
  (∀ (s : State) (v : Byte), s.takes 0x12 [v] →
    (v = 0 → exec (.setProfile [v]) s = .next ((s.setEngine { s.engine with
      profile := .broadcast, s := if s.engine.profile = .broadcast then s.engine.s else 0 }).replied 0x12 .ok [0])) ∧
    (v = 1 → exec (.setProfile [v]) s = .next ((s.setEngine { s.engine with profile := .tape }).replied 0x12 .ok [1])) ∧
    (2 ≤ v.toNat → exec (.setProfile [v]) s = .next (s.replied 0x12 .badParam []))) ∧
  (∀ (s : State) (p ph a b : Byte), s.takes 0x13 [p, ph, a, b] →
    (∀ (profile : Profile) (locked : Bool), p.toNat = profile.code → ph.toNat = boolCode locked →
      ∃ g : Gains,
        exec (.setGains [p, ph, a, b]) s = .next ((s.setEngine { s.engine with gains := g }).replied 0x13 .ok
          [BitVec.ofNat 8 (clampNat 0 15 a.toNat), BitVec.ofNat 8 (clampNat 0 23 b.toNat)]) ∧
        ∀ p' l', g.pair p' l' = if p' = profile ∧ l' = locked then ⟨clampNat 0 15 a.toNat, clampNat 0 23 b.toNat⟩
          else s.engine.gains.pair p' l') ∧
    (2 ≤ p.toNat ∨ 2 ≤ ph.toNat → exec (.setGains [p, ph, a, b]) s = .next (s.replied 0x13 .badParam []))) ∧
  (∀ (s : State) (a b : Byte), s.takes 0x16 [a, b] →
    let v := clampInt (-8192) 8191 (BitVec.ofNat 16 (256 * a.toNat + b.toNat)).toInt
    exec (.setAdvance [a, b]) s = .next ((s.setEngine { s.engine with a := v }).replied 0x16 .ok (bytesOfInt 2 v)))

/-- SET LOCK WINDOWS, SET QUALIFY, SET SYNC WINDOWS, SET STORE DELAY and SET VIDEO TRIM: each value clamped into its range
and stored, and everything else kept. SET FIELD COUNT leaves its value pending and the count as it stands. -/
def Obligations.LockAndStoreParametersAreStored : Prop :=
  ((∀ (s : State) (a b c d e f g h : Byte), s.takes 0x14 [a, b, c, d, e, f, g, h] →
    let wLock := clampNat 1 1023 (256 * a.toNat + b.toNat)
    let wDrop := clampNat wLock 4095 (256 * c.toNat + d.toNat)
    let nLock := clampNat 1 1023 (256 * e.toNat + f.toNat)
    let nUnlock := clampNat 1 255 (256 * g.toNat + h.toNat)
    exec (.setLockWindows [a, b, c, d, e, f, g, h]) s =
      .next ((s.setEngine { s.engine with wLock := wLock, wDrop := wDrop, nLock := nLock, nUnlock := nUnlock }).replied
        0x14 .ok (bytesOf 2 wLock ++ bytesOf 2 wDrop ++ bytesOf 2 nLock ++ bytesOf 2 nUnlock))) ∧
  (∀ (s : State) (a b c : Byte), s.takes 0x15 [a, b, c] →
    let q := clampNat 1 255 a.toNat
    exec (.setQualify [a, b, c]) s =
      .next ((s.setEngine { s.engine with q := q, hmax := 256 * b.toNat + c.toNat }).replied 0x15 .ok
        (bytesOf 1 q ++ bytesOf 2 (256 * b.toNat + c.toNat)))) ∧
  (∀ (s : State) (a b c d e f : Byte), s.takes 0x1C [a, b, c, d, e, f] →
    let wn := clampNat 8 128 (256 * a.toNat + b.toNat)
    let ww := clampNat wn 768 (256 * c.toNat + d.toNat)
    let nloss := clampNat 4 63 e.toNat
    let bad := clampNat 0 31 f.toNat
    exec (.setSyncWindows [a, b, c, d, e, f]) s =
      .next ((s.setClassifier { s.classifier with wn := wn, ww := ww, nloss := nloss, b := bad }).replied 0x1C .ok
        (bytesOf 2 wn ++ bytesOf 2 ww ++ bytesOf 1 nloss ++ bytesOf 1 bad))) ∧
  (∀ (s : State) (a : Byte), s.takes 0x20 [a] →
    exec (.setStoreDelay [a]) s = .next ((s.setStore { s.store with d := clampNat 2 6 a.toNat }).replied 0x20 .ok
      [BitVec.ofNat 8 (clampNat 2 6 a.toNat)])) ∧
  (∀ (s : State) (a : Byte), s.takes 0x21 [a] →
    exec (.setVideoTrim [a]) s = .next ((s.setStore { s.store with h := clampInt (-32) 31 a.toInt }).replied 0x21 .ok
      (bytesOfInt 1 (clampInt (-32) 31 a.toInt))))) ∧
  (∀ (s : State) (a b c : Byte), s.takes 0x19 [a, b, c] →
    exec (.setFieldCount [a, b, c]) s =
      .next ((s.setTiming { s.timing with load := some (BitVec.ofNat 24 (65536 * a.toNat + 256 * b.toNat + c.toNat)) }).replied
        0x19 .ok [a, b, c]))

/-- SET STANDARD and SET RASTER: refused outside their enumerations, without effect on equal values, and else a timing
restart from the new values before the reply, with the STATE_CHANGE, AT_LIMIT_LEAVE and STANDARD_OK that it brings. -/
def Obligations.StandardAndRasterRestartTiming : Prop :=
  (∀ (s : State) (v : Byte), s.takes 0x10 [v] →
    (2 ≤ v.toNat → exec (.setStandard [v]) s = .next (s.replied 0x10 .badParam [])) ∧
    (∀ std : Standard, v.toNat = std.code → s.timing.standard = std →
      exec (.setStandard [v]) s = .next (s.replied 0x10 .ok [v])) ∧
    (∀ std : Standard, v.toNat = std.code → s.timing.standard ≠ std →
      ∃ t : State, exec (.setStandard [v]) s = .next (t.replied 0x10 .ok [v]) ∧
        timingRestarted (s.setTiming { s.timing with standard := std }) t true ∧ t.classifier.mismatch = false)) ∧
  (∀ (s : State) (a b m n : Byte), s.takes 0x11 [a, b, m, n] →
    let lpix := clampNat 320 1400 (256 * a.toNat + b.toNat)
    let latency := clampNat 0 15 n.toNat
    let results := bytesOf 2 lpix ++ [m, BitVec.ofNat 8 latency]
    (2 ≤ m.toNat → exec (.setRaster [a, b, m, n]) s = .next (s.replied 0x11 .badParam [])) ∧
    (∀ mode : RasterMode, m.toNat = mode.code →
      s.timing.lpix = lpix ∧ s.timing.mode = mode ∧ s.timing.latency = latency →
      exec (.setRaster [a, b, m, n]) s = .next (s.replied 0x11 .ok results)) ∧
    (∀ mode : RasterMode, m.toNat = mode.code →
      ¬(s.timing.lpix = lpix ∧ s.timing.mode = mode ∧ s.timing.latency = latency) →
      ∃ t : State, exec (.setRaster [a, b, m, n]) s = .next (t.replied 0x11 .ok results) ∧
        timingRestarted (s.setTiming { s.timing with lpix := lpix, mode := mode, latency := latency }) t false ∧
        t.classifier.mismatch = s.classifier.mismatch))

/-- SET INTERNAL enters INTERNAL at K0 from any other state, RELEASE INTERNAL leaves it for FREE; each without effect, or
refused, otherwise. The title half and the classifier are untouched. Every change of lock state posts STATE_CHANGE with the
new and the old state, and a change that sets K while the AT_LIMIT cause is true ends that cause with AT_LIMIT_LEAVE. -/
def Obligations.InternalRequestsChangeLockState : Prop :=
  (∀ s : State, s.takes 0x17 [] → s.engine.lock = .internal →
    exec (.setInternal []) s = .next (s.replied 0x17 .ok [])) ∧
  (∀ s : State, s.takes 0x17 [] → s.engine.lock ≠ .internal →
    ∃ t : State, exec (.setInternal []) s = .next (t.replied 0x17 .ok []) ∧
      t.engine = { s.engine with
        lock := .internal, unlocked := false, atLimit := false, k := s.engine.k0, i := 0, s := 0, qual := 0, lockRun := 0,
        dropRun := 0, missRun := 0, holdover := 0 } ∧
      t.timing = { s.timing with jam := none } ∧ t.store = s.store.goneIdle ∧
      t.mixer = { s.mixer with recorded := .internal } ∧
      (t.classifier, t.banks, t.fades, t.cues, t.link) = (s.classifier, s.banks, s.fades, s.cues, s.link) ∧
      ((s.reports.queues[(0 : Fin 4)]).length ≤ 22 →
        t.reports.queues[(0 : Fin 4)] = s.reports.queues[(0 : Fin 4)] ++
          ⟨.stateChange, s.timing.count, 4, BitVec.ofNat 16 s.engine.lock.code⟩ ::
            (if s.engine.atLimit then [⟨.atLimitLeave, s.timing.count, 0, 0⟩] else []))) ∧
  (∀ s : State, s.takes 0x18 [] → s.engine.lock ≠ .internal →
    exec (.releaseInternal []) s = .next (s.replied 0x18 .wrongState [])) ∧
  (∀ s : State, s.takes 0x18 [] → s.engine.lock = .internal →
    ∃ t : State, exec (.releaseInternal []) s = .next (t.replied 0x18 .ok []) ∧
      t.engine = { s.engine with
        lock := .free, unlocked := true, atLimit := false, k := s.engine.k0, i := 0, s := 0, qual := 0 } ∧
      t.timing = { s.timing with jam := none } ∧ t.store = s.store.goneIdle ∧
      t.mixer = { s.mixer with recorded := .free } ∧
      (t.classifier, t.banks, t.fades, t.cues, t.link) = (s.classifier, s.banks, s.fades, s.cues, s.link) ∧
      ((s.reports.queues[(0 : Fin 4)]).length ≤ 22 →
        t.reports.queues[(0 : Fin 4)] = s.reports.queues[(0 : Fin 4)] ++ ⟨.stateChange, s.timing.count, 0, 4⟩ ::
          (if s.engine.atLimit then [⟨.atLimitLeave, s.timing.count, 0, 0⟩] else []))) ∧
  (∀ (s : State) (new : LockState) (setsK : Bool) (e : Engine),
    let r := s.changeLock new setsK e
    r.1.engine = { e with
      lock := new, unlocked := decide (new ≠ .locked ∧ new ≠ .internal), atLimit := s.engine.atLimit && !setsK } ∧
    r.1.mixer = { s.mixer with recorded := new } ∧ r.1.store =
      (if new = .acquire ∨ new = .locked then (if s.store.active = true then s.store else s.store.goneActive)
        else s.store.goneIdle) ∧
    r.1.timing = { s.timing with jam := if new = .acquire ∨ new = .locked then s.timing.jam else none } ∧
    r.2 = changePosts s.engine.lock new setsK s.engine.atLimit)

/-- The five queries of whole units answer OK with the record of the unit as it stands, field by field in the sizes and codes
of Tables 10-G and 10-H, and change nothing but the receiver; so are the window, fade, cue and report records laid out. QUERY BANK of a byte that names no bank is refused. -/
def Obligations.QueriesAnswerWithRecords : Prop :=
  (∀ s : State,
    (s.takes 0x1A [] →
      exec (.queryLock []) s = .next (s.replied 0x1A .ok (packed (s.classifier.fieldsOf ++ s.engine.fieldsOf))) ∧
      (packed (s.classifier.fieldsOf ++ s.engine.fieldsOf)).length = 62) ∧
    (s.takes 0x1B [] → exec (.queryTiming []) s = .next (s.replied 0x1B .ok (packed s.timing.fieldsOf)) ∧
      (packed s.timing.fieldsOf).length = 21) ∧
    (s.takes 0x22 [] → exec (.queryStore []) s = .next (s.replied 0x22 .ok (packed s.store.fieldsOf)) ∧
      (packed s.store.fieldsOf).length = 56) ∧
    (s.takes 0x38 [] →
      exec (.queryMixer []) s = .next (s.replied 0x38 .ok (packed (s.mixer.fieldsOf s.timing.latency))) ∧
      (packed (s.mixer.fieldsOf s.timing.latency)).length = 79) ∧
    (∀ (v : Byte) (n : BankName), s.takes 0x37 [v] → v.toNat = n.code →
      let results := packed ([(1, match s.banks.live with | .a => 0 | .b => 1), (1, bit s.banks.swap.isSome),
        (1, bit (s.banks.swap = some true))] ++ (List.finRange 8).flatMap fun i => ((s.banks.windows n)[i]).fieldsOf)
      exec (.queryBank [v]) s = .next (s.replied 0x37 .ok results) ∧ results.length = 107) ∧
    (∀ v : Byte, s.takes 0x37 [v] → 2 ≤ v.toNat → exec (.queryBank [v]) s = .next (s.replied 0x37 .badParam []))) ∧
  (∀ w : Window, w.bytes = packed w.fieldsOf ∧ w.bytes.length = 13) ∧
  (∀ f : Fade, f.bytes = packed f.fieldsOf ∧ f.bytes.length = 15) ∧
  (∀ c : CueContent, c.bytes = packed c.fieldsOf ∧ c.bytes.length = 24) ∧
  (∀ r : Report, r.bytes = packed r.fieldsOf ∧ r.bytes.length = 7)

/-! ## The loop -/

/-- The phase error: the distance folded into one nominal line and clamped to 4,095. The clamped value is the one the filter
uses and the engine keeps, and the one on which the lock run and the drop run are judged. -/
def Obligations.PhaseErrorIsFoldedAndClamped : Prop :=
  (∀ (std : Standard) (x : Nat),
    let r := x % lnom std
    let e : Int := if r ≤ lnom std / 2 then r else (r : Int) - lnom std
    foldError (lnom std) x = (if e < -4095 then -4095 else if 4095 < e then 4095 else e) ∧
    (foldError (lnom std) x).natAbs ≤ 4095 ∧
    (std = .s625 → -12287 ≤ e ∧ e ≤ 12288) ∧ (std = .s525 → -12202 ≤ e ∧ e ≤ 12202)) ∧
  ∀ (s : State) (l : RefLine) (g : Stamp), l.synthetic = false → s.engine.lock = .acquire ∨ s.engine.lock = .locked →
    let e0 := s.engine.takeStep l.step
    e0.measureFrom (e0.target l.stamp) = some g →
    let err := foldError (lnom s.timing.standard) (e0.target l.stamp - g).toNat
    let updated := (e0.update err).countRun
    (s.measure l).engine.e = err ∧ (s.measure l).engine.i = e0.nextI err ∧ (s.measure l).engine.k = e0.clampK (e0.rawK err) ∧
    (s.engine.lock = .acquire → updated.lockRun =
      if err.natAbs ≤ s.engine.wLock then (if s.engine.lockRun < 1023 then s.engine.lockRun + 1 else 1023) else 0) ∧
    (s.engine.lock = .locked → updated.dropRun =
      if s.engine.wDrop < err.natAbs then (if s.engine.dropRun < 255 then s.engine.dropRun + 1 else 255) else 0)

/-- One measurement in ACQUIRE or LOCKED: in the TAPE profile S takes a step, held within 8,191; the error is the distance of
the target stamp from the most recent generated line start at or before it, or from the oldest held; I and K follow by the
filter with the gain pair in use, each clamped, with a report of a change of AT_LIMIT; then the run that the error lengthens or
ends, which with a vertical match enters LOCKED with the drop run and the miss run 0, or drops lock for ACQUIRE with the three
runs 0 and vertical match no, a pending check standing by the model's choice (log 34); every other field of the engine stays, and the store keeps its slots. Without a generated line start only S moves. In
the other states, and for a SYNTHETIC line start, nothing is measured. A field start moves S toward zero by
max(1, floor((|S| + 32)/64)) in every state, and a real one in ACQUIRE arms a jam check. -/
def Obligations.MeasurementAndDecayMoveLoop : Prop :=
  (∀ (s : State) (l : RefLine), l.synthetic = true ∨ (s.engine.lock ≠ .acquire ∧ s.engine.lock ≠ .locked) → s.measure l = s) ∧
  (∀ (s : State) (l : RefLine), l.synthetic = false → s.engine.lock = .acquire ∨ s.engine.lock = .locked →
    let offset : Int :=
      match l.step, s.engine.profile with
      | some sigma, .tape => clampInt (-8191) 8191 (s.engine.s + sigma)
      | _, _ => s.engine.s
    let target := l.stamp + BitVec.ofInt 24 (s.engine.a - offset)
    (s.engine.history = [] → s.measure l = s.setEngine { s.engine with s := offset }) ∧
    ∀ g : Stamp, chosenStart s.engine.history target g →
    let err := foldError (lnom s.timing.standard) (target - g).toNat
    let pair := s.engine.gains.pair s.engine.profile (s.engine.lock = .locked)
    let i := clampInt (-s.engine.kspan) s.engine.kspan (s.engine.i + roundedShift (err * 65536) pair.si)
    let raw := (s.engine.k0 : Int) - roundedShift (err * 65536) pair.sp - i
    let acts := raw < (s.engine.k0 : Int) - s.engine.kspan ∨ (s.engine.k0 : Int) + s.engine.kspan < raw
    let updated := { s.engine with
      e := err, i := i, s := offset, atLimit := decide acts
      k := (clampInt (s.engine.k0 - s.engine.kspan) (s.engine.k0 + s.engine.kspan) raw).toNat }
    referenceKeeps s (s.measure l) ∧ (s.measure l).timing = s.timing ∧ (s.measure l).pulse = s.pulse ∧
    (s.measure l).classifier = s.classifier ∧
    (s.lockOk → (s.measure l).store = s.store ∧ (s.measure l).mixer.recorded = (s.measure l).engine.lock) ∧
    ((s.reports.queues[(0 : Fin 4)]).length ≤ 22 →
      (s.measure l).reports.queues[(0 : Fin 4)] = s.reports.queues[(0 : Fin 4)] ++
        (if acts ∧ s.engine.atLimit = false then
            [⟨.atLimitEnter, s.timing.count, if (s.engine.k0 : Int) + s.engine.kspan < raw then 1 else 2, BitVec.ofInt 16 err⟩]
          else if ¬acts ∧ s.engine.atLimit = true then [⟨.atLimitLeave, s.timing.count, 0, BitVec.ofInt 16 err⟩] else []) ++
        recordsOf s.timing.count (changePosts s.engine.lock (s.measure l).engine.lock false false)) ∧
    (s.engine.lock = .acquire →
      let run := if err.natAbs ≤ s.engine.wLock then (if s.engine.lockRun < 1023 then s.engine.lockRun + 1 else 1023) else 0
      (s.measure l).engine =
        if s.engine.nLock ≤ run ∧ s.engine.vmatch = true then
          { updated with lockRun := run, lock := .locked, unlocked := false, dropRun := 0, missRun := 0 }
        else { updated with lockRun := run }) ∧
    (s.engine.lock = .locked →
      let run := if s.engine.wDrop < err.natAbs then (if s.engine.dropRun < 255 then s.engine.dropRun + 1 else 255) else 0
      (s.measure l).engine =
        if s.engine.nUnlock ≤ run then
          { updated with lock := .acquire, unlocked := true, lockRun := 0, vmatch := false, dropRun := 0, missRun := 0 }
        else { updated with dropRun := run })) ∧
  (∀ (s : State) (f : RefField),
    s.takeFieldStart f = (s.setEngine { s.engine with s := decayOffset s.engine.s }).setTiming
      { s.timing with jam := if s.engine.lock = .acquire ∧ f.synthetic = false then some ⟨f.parity, s.store.d, s.store.d⟩
        else s.timing.jam }) ∧
  (∀ v : Int,
    (v = 0 → decayOffset v = 0) ∧
    (0 < v → decayOffset v = v - max 1 ((v + 32) / 64) ∧ 0 ≤ decayOffset v) ∧
    (v < 0 → decayOffset v = v + max 1 ((-v + 32) / 64) ∧ decayOffset v ≤ 0))

/-! ## The reference input -/

/-- In SEARCH: a leading edge is kept with its stamp; NOISE is ignored, a LINE pulse becomes the candidate or, at a fair
spacing, opens TRACK, every other class and the candidate's expiry discard the candidate. -/
def Obligations.SearchJudgesPulsesAgainstCandidate : Prop :=
  (∀ (s : State) (x : Stamp), s.pulse = .idle → exec (.pulseLeadingEdge x) s = .next (s.setPulse (.inProgress x))) ∧
  (∀ s : State, s.classifier.tracking = .search →
    exec .candidateExpiry s = .next (s.setClassifier { s.classifier with candidate := none })) ∧
  (∀ (s : State) (x : Stamp), s.classifier.tracking = .search → s.pulse = .inProgress x →
    exec .overlongPulse s =
      .next ((s.setPulse .handled).setClassifier { s.classifier with candidate := none }).settle) ∧
  (∀ (s : State) (w : Nat), s.pulse = .handled → exec (.syncPulse w) s = .next (s.setPulse .idle)) ∧
  ∀ (s : State) (x : Stamp) (w : Nat), s.classifier.tracking = .search → s.pulse = .inProgress x →
    let after := fun c : Classifier => ((s.setPulse .idle).setClassifier c).settle
    (w < 32 → exec (.syncPulse w) s = .next (after s.classifier)) ∧
    ((32 ≤ w ∧ w < 84) ∨ 192 ≤ w → exec (.syncPulse w) s = .next (after { s.classifier with candidate := none })) ∧
    (84 ≤ w ∧ w < 192 →
      (s.classifier.candidate = none →
        exec (.syncPulse w) s = .next (after { s.classifier with candidate := some x })) ∧
      (∀ c, s.classifier.candidate = some c →
        lnom s.timing.standard / 20 < (((x - c).toNat : Int) - lnom s.timing.standard).natAbs →
        exec (.syncPulse w) s = .next (after { s.classifier with candidate := some x })))

/-- The second pulse of a pair at a fair spacing opens TRACK: Lavg from the spacing, the anchor and the prediction from the
pulse, nothing numbered, REF_ABSENT false, REF_FOUND posted. That the candidate becomes none is the model's choice (log 33). -/
def Obligations.PairAtFairSpacingEntersTrack : Prop :=
  ∀ (s : State) (x c : Stamp) (w : Nat), s.classifier.tracking = .search → s.pulse = .inProgress x →
    84 ≤ w → w < 192 → s.classifier.candidate = some c →
    (((x - c).toNat : Int) - lnom s.timing.standard).natAbs ≤ lnom s.timing.standard / 20 → s.trackingOk →
    (s.reports.queues[(0 : Fin 4)]).length < 24 →
    let lavg := clampLavg s.timing.standard (x - c).toNat
    ∃ t : State, exec (.syncPulse w) s = .next t ∧ t.pulse = .idle ∧
      t.classifier = { s.classifier with
        tracking := .track, candidate := none, lavg := lavg, anchor := some ⟨x, true, false⟩,
        prediction := some ⟨x + BitVec.ofNat 24 lavg, s.classifier.wn, s.classifier.ww⟩, midLine := false, syncRun := false,
        numbering := .unnumbered, synthCount := 0, badCount := 0, previous := none, verdict := none, flywheel := false,
        refAbsent := false, closeHeld := false } ∧
      t.reports.queues[(0 : Fin 4)] = s.reports.queues[(0 : Fin 4)] ++ [⟨.refFound, s.timing.count, 0, 0⟩] ∧
      (t.engine, t.timing, t.mixer, t.banks, t.fades, t.cues, t.link) =
        (s.engine, s.timing, s.mixer, s.banks, s.fades, s.cues, s.link) ∧
      t.stamp = s.stamp ∧ (s.lockOk → t.store = s.store)

/-- In TRACK a pulse in the narrow window is an ordinary line start that may update Lavg, one in the wide window alone a STEP
line start that leaves Lavg: SHORT opens the mid-line window, LINE closes it and ends the field-sync run, BROAD is offered as a
field start; the line start is numbered, written to the line store and measured, and becomes the anchor. One outside both
windows is a stray, counted as a bad event; an OVERLONG pulse is a stray; NOISE is ignored. -/
def Obligations.TrackJudgesPulsesByWindows : Prop :=
  (∀ (s : State) (x : Stamp) (w : Nat) (p : Prediction), s.classifier.tracking = .track → s.pulse = .inProgress x →
    32 ≤ w → w < 960 → s.classifier.prediction = some p → (84 ≤ w ∧ w < 192) ∨ s.classifier.inMidLine x = false →
    let d := (stampDiff x p.stamp).natAbs
    let accepted := fun (lavg : Nat) (step : Option Int) =>
      let judged := (s.setPulse .idle).setClassifier { s.classifier with
        lavg := lavg
        synthCount := 0
        midLine := if w < 84 then true else if w < 192 then false else s.classifier.midLine
        syncRun := if 84 ≤ w ∧ w < 192 then false else s.classifier.syncRun }
      let numbered := if 192 ≤ w then judged.numberBroad x else judged.numberLine x
      let line : RefLine := ⟨x, numbered.2, false, step⟩
      let t := (numbered.1.storeWrite line).measure line
      (t.setClassifier { t.classifier with
        anchor := some ⟨x, true, step.isSome⟩
        prediction := some ⟨x + BitVec.ofNat 24 lavg, s.classifier.wn, s.classifier.ww⟩
        closeHeld := false }).settle
    (d ≤ 16 * p.wn →
      (∀ a, s.classifier.anchor = some a → a.real = true ∧ a.step = false →
        exec (.syncPulse w) s = .next (accepted (clampLavg s.timing.standard
          (s.classifier.lavg + sixteenthHalfAway ((x - a.stamp).toNat - (s.classifier.lavg : Int)))) none)) ∧
      ((∀ a, s.classifier.anchor = some a → a.real = false ∨ a.step = true) →
        exec (.syncPulse w) s = .next (accepted s.classifier.lavg none))) ∧
    (16 * p.wn < d → d ≤ 16 * p.ww →
      exec (.syncPulse w) s = .next (accepted s.classifier.lavg (some (stampDiff x p.stamp)))) ∧
    (d ≤ 16 * p.wn ∨ d ≤ 16 * p.ww →
      ∃ t : State, exec (.syncPulse w) s = .next t ∧ t.pulse = .idle ∧ referenceKeeps s t ∧ t.classifier.synthCount = 0 ∧
        t.classifier.tracking = .track) ∧
    (16 * p.wn < d → 16 * p.ww < d → s.classifier.closeHeld = false →
      exec (.syncPulse w) s = .next ((s.setPulse .idle).setClassifier
        { s.classifier with badCount := raised 255 s.classifier.badCount }).settle)) ∧
  (∀ (s : State) (x : Stamp) (w : Nat), s.classifier.tracking = .track → s.pulse = .inProgress x → s.classifier.closeHeld = false →
    (w < 32 → exec (.syncPulse w) s = .next (s.setPulse .idle).settle) ∧
    exec .overlongPulse s = .next ((s.setPulse .handled).setClassifier
      { s.classifier with badCount := raised 255 s.classifier.badCount }).settle)

/-- The closing of the wide window makes a SYNTHETIC line start at the prediction: numbered, a bad event, written to the line
store, the new anchor. A pulse in progress within the window holds it back until a pulse that is not accepted as a line start is
handled. At Nloss of them the reference is lost: SEARCH, REF_LOST, and from ACQUIRE or LOCKED to HOLDOVER with K held at K0 - I,
or to FREE with Hmax 0. -/
def Obligations.WindowCloseMakesSyntheticLineStart : Prop :=
  (∀ (s : State) (p : Prediction), s.classifier.tracking = .track → s.classifier.prediction = some p →
    (∀ x, s.pulse = .inProgress x → (stampDiff x p.stamp).natAbs ≤ 16 * p.ww →
      exec .wideWindowClose s = .next (s.setClassifier { s.classifier with closeHeld := true })) ∧
    ((∀ x, s.pulse = .inProgress x → 16 * p.ww < (stampDiff x p.stamp).natAbs) →
      exec .wideWindowClose s = .next s.makeSynthetic.settle ∧ referenceKeeps s s.makeSynthetic.settle ∧
      s.makeSynthetic.settle.pulse = s.pulse)) ∧
  (∀ (s : State) (p : Prediction), s.classifier.prediction = some p →
    let n := raised 63 s.classifier.synthCount
    let numbered := s.numberLine p.stamp
    let t := (numbered.1.setClassifier { numbered.1.classifier with
      badCount := raised 255 numbered.1.classifier.badCount, synthCount := n }).storeWrite ⟨p.stamp, numbered.2, true, none⟩
    let made := t.setClassifier { t.classifier with
      anchor := some ⟨p.stamp, false, false⟩
      prediction := some ⟨p.stamp + BitVec.ofNat 24 s.classifier.lavg, s.classifier.wn, s.classifier.ww⟩
      closeHeld := false }
    (n < s.classifier.nloss → s.makeSynthetic = made) ∧ (s.classifier.nloss ≤ n → s.makeSynthetic = made.loseReference)) ∧
  (∀ s : State,
    lossTaken s s.loseReference ∧ referenceKeeps s s.loseReference ∧ s.loseReference.pulse = s.pulse ∧
    s.loseReference.classifier = { s.classifier with
      tracking := .search, refAbsent := true, prediction := none, midLine := false, syncRun := false
      numbering := .unnumbered, badCount := 0, synthCount := 0, previous := none, flywheel := false, wrongRun := 0
      candidate := none, closeHeld := false }) ∧
  (∀ (s : State) (x : Stamp) (w : Nat) (p : Prediction), s.classifier.tracking = .track → s.pulse = .inProgress x →
    s.classifier.closeHeld = true → s.classifier.prediction = some p →
    let stray := { s.classifier with badCount := raised 255 s.classifier.badCount }
    (w < 32 → exec (.syncPulse w) s = .next (s.setPulse .idle).makeSynthetic.settle) ∧
    (32 ≤ w → w < 960 → (84 ≤ w ∧ w < 192) ∨ s.classifier.inMidLine x = false →
      16 * p.wn < (stampDiff x p.stamp).natAbs → 16 * p.ww < (stampDiff x p.stamp).natAbs →
      exec (.syncPulse w) s = .next ((s.setPulse .idle).setClassifier stray).makeSynthetic.settle) ∧
    exec .overlongPulse s = .next ((s.setPulse .handled).setClassifier stray).makeSynthetic.settle)

/-- A mid-line SHORT pulse has no effect; a mid-line BROAD pulse through an open gate starts a field of parity 2, and a BROAD
pulse on the grid one of parity 1 that it is line 1 of; within field sync it is part of it, and at a shut gate a bad event. A
grid line start takes the next number, and at the flywheel's limit starts a synthetic field. A field start brings the verdict
on the ended field by its four tests with the wrong-standard test, in FREE and HOLDOVER the qualification, the reports of both
units in an order that is open (log 13), the decay of S, and in ACQUIRE, when real, the arming of the jam check; at entry to
ACQUIRE the store starts active and empty, and otherwise it stays. The field-start event carries its parity, whether it is
SYNTHETIC, and the stamp of the pulse or line start that made it. -/
def Obligations.MidLineBroadPulseJudgesField : Prop :=
  (∀ (s : State) (x : Stamp) (w : Nat), s.classifier.tracking = .track → s.pulse = .inProgress x →
    s.classifier.inMidLine x = true → (32 ≤ w ∧ w < 84) ∨ (192 ≤ w ∧ w < 960) →
    let b := s.setPulse .idle
    let judged :=
      if w < 84 then b
      else match s.classifier.numbering with
        | .unnumbered => b.startRefField ⟨.two, false, x⟩ (.awaiting .two)
        | .awaiting _ => b
        | .numbered k =>
          if s.classifier.syncRun then b
          else if 200 ≤ k.line then b.startRefField ⟨.two, false, x⟩ (.awaiting .two)
          else b.setClassifier { s.classifier with badCount := raised 255 s.classifier.badCount }
    exec (.syncPulse w) s = .next (if s.classifier.closeHeld then judged.makeSynthetic else judged).settle) ∧
  (∀ (s : State) (x : Stamp),
    (s.classifier.numbering = .unnumbered → s.numberLine x = (s, none) ∧
      s.numberBroad x = (s.startRefField ⟨.one, false, x⟩ (.numbered ⟨.one, 1⟩), some ⟨.one, 1⟩)) ∧
    (∀ p, s.classifier.numbering = .awaiting p →
      s.numberLine x = (s.setClassifier { s.classifier with numbering := .numbered ⟨p, 1⟩ }, some ⟨p, 1⟩) ∧
      s.numberBroad x = s.numberLine x) ∧
    (∀ k, s.classifier.numbering = .numbered k →
      let limit := if s.classifier.flywheel then fieldLength s.timing.standard k.parity + 1 else 314
      (k.line + 1 ≠ limit → s.numberLine x =
        (s.setClassifier { s.classifier with numbering := .numbered ⟨k.parity, k.line + 1⟩ }, some ⟨k.parity, k.line + 1⟩)) ∧
      (k.line + 1 = limit → s.numberLine x =
        (s.startRefField ⟨k.parity.other, true, x⟩ (.numbered ⟨k.parity.other, 1⟩), some ⟨k.parity.other, 1⟩)) ∧
      (s.classifier.syncRun = true → s.numberBroad x = s.numberLine x) ∧
      (s.classifier.syncRun = false → 200 ≤ k.line →
        s.numberBroad x = (s.startRefField ⟨.one, false, x⟩ (.numbered ⟨.one, 1⟩), some ⟨.one, 1⟩)) ∧
      (s.classifier.syncRun = false → k.line < 200 → s.numberBroad x =
        (s.setClassifier { s.classifier with badCount := raised 255 s.classifier.badCount }).numberLine x))) ∧
  (∀ (s : State) (f : RefField) (n : Numbering),
    let t := s.startRefField f n
    referenceKeeps s t ∧ t.pulse = s.pulse ∧
    t.classifier = { s.classifier with
      numbering := n, syncRun := true, badCount := 0, startSynthetic := f.synthetic
      verdict := t.classifier.verdict, flywheel := t.classifier.flywheel, previous := t.classifier.previous
      wrongRun := t.classifier.wrongRun, mismatch := t.classifier.mismatch } ∧
    (t.engine.lock = s.engine.lock → t.store = s.store ∧ t.mixer = s.mixer) ∧
    (t.engine.lock ≠ s.engine.lock →
      t.engine.lock = .acquire ∧ t.mixer = { s.mixer with recorded := .acquire } ∧
      t.store = if s.store.active = true then s.store else s.store.goneActive) ∧
    t.timing.jam = (if t.engine.lock = .acquire ∧ f.synthetic = false then some ⟨f.parity, s.store.d, s.store.d⟩
      else s.timing.jam) ∧
    ((∀ k, s.classifier.numbering ≠ .numbered k) →
      t.engine = { s.engine with s := decayOffset s.engine.s } ∧ t.classifier.verdict = s.classifier.verdict ∧
      t.classifier.flywheel = s.classifier.flywheel ∧ t.classifier.previous = s.classifier.previous ∧
      t.classifier.wrongRun = s.classifier.wrongRun ∧ t.classifier.mismatch = s.classifier.mismatch ∧
      t.reports = s.reports) ∧
    (∀ k, s.classifier.numbering = .numbered k →
      let good := decide (k.line = fieldLength s.timing.standard k.parity ∧ s.classifier.badCount ≤ s.classifier.b ∧
        s.classifier.previous = some k.parity.other ∧ s.classifier.startSynthetic = false)
      t.classifier.verdict = some ⟨k.parity, k.line, good⟩ ∧ t.classifier.flywheel = good ∧
      t.classifier.previous = some k.parity ∧
      standardTested s.timing.standard k.line k.parity s.classifier t.classifier ∧ verdictTaken s.engine t.engine good ∧
      ((s.reports.queues[(0 : Fin 4)]).length ≤ 22 →
        let classifier := recordsOf s.timing.count (standardPosts s.timing.standard k.line k.parity s.classifier)
        let engine := recordsOf s.timing.count (changePosts s.engine.lock t.engine.lock false false)
        t.reports.queues[(0 : Fin 4)] = s.reports.queues[(0 : Fin 4)] ++ (classifier ++ engine) ∨
        t.reports.queues[(0 : Fin 4)] = s.reports.queues[(0 : Fin 4)] ++ (engine ++ classifier))))

/-! ## The clock -/

/-- A tick that does not carry adds K to the accumulator, moves the stamp counter on by 16 fu, and may take a sample. A
carrying tick at which no line or field starts makes one pixel: the counter advances, line sync is counted down and at its last
clock released, a sample that is due is placed, and the rest of the timing generator and of the mixer, the lock engine, banks,
generators, cues and report queues stay. -/
def Obligations.TickAddsIncrementAndCarryMakesPixel : Prop :=
  (∀ (s : State) (ref : Sample), s.timing.acc.toNat + s.engine.k < 2 ^ 32 →
    exec (.measurementTick ref) s = .next { s with
      timing := { s.timing with acc := BitVec.ofNat 32 (s.timing.acc.toNat + s.engine.k) }
      store := s.store.sampleTick s.stamp ref
      stamp := s.stamp + 16 } ∧
    (BitVec.ofNat 32 (s.timing.acc.toNat + s.engine.k)).toNat = s.timing.acc.toNat + s.engine.k) ∧
  (∀ (s : State) (index : BitVec 4) (ref : Sample), s.engine.k < 2 ^ 32 →
    let made := fun t : State =>
      t.timing.acc.toNat = s.timing.acc.toNat + s.engine.k - 2 ^ 32 ∧
      t.timing = { s.timing with acc := t.timing.acc, pixel := s.timing.pixel + 1, lineSync := t.timing.lineSync } ∧
      t.store = s.store.sampleTick s.stamp ref ∧
      t.mixer = { s.mixer with
        pipeline := t.mixer.pipeline, syncDelay := t.mixer.syncDelay, output := t.mixer.output, clip := t.mixer.clip } ∧
      t.reports = { s.reports with latched := t.reports.latched, attn := t.reports.attn } ∧
      clockKeeps s t ∧ t.engine = s.engine ∧ t.banks = s.banks ∧ t.fades = s.fades ∧ t.cues = s.cues ∧ t.link = s.link
    (s.tickKind = .lineSyncRelease →
      ∃ t : State, exec (.lineSyncRelease index ref) s = .next t ∧ made t ∧ s.timing.lineSync = some 1 ∧ t.timing.lineSync = none) ∧
    (s.tickKind = .pixel →
      ∃ t : State, exec (.pixelClock index ref) s = .next t ∧ made t ∧
        (s.timing.lineSync = none → t.timing.lineSync = none) ∧
        (∀ n, 2 ≤ n → s.timing.lineSync = some n → t.timing.lineSync = some (n - 1))))

/-- The index sampled at a pixel clock of any kind, with or without a line start or a field start, belongs to the oldest waiting
pixel once more than latency pixels wait: it is formed with its own values and the context of its line, and black stands until
then. With latency 0 it belongs to the pixel just produced, with the values of its moment. The colour of the index is mixed over
the store output or the matte and held to the legal range of each component; a pixel so limited latches CLIP and sets the
last-clip record, KEY above level 0 and VIDEO at it. The output syncs are those of latency pixel clocks before. -/
def Obligations.PixelIsFormedWithItsIndex : Prop :=
  ∀ (s : State) (index : BitVec 4) (ref : Sample) (between : List Byte),
    let older := s.mixer.pipeline.map fun q => { q with before := true }
    let keeps := fun t : State =>
      (t.timing.key, t.timing.pixel, t.timing.count) = (s.timing.key, s.timing.pixel + 1, s.timing.count) ∧
      (t.mixer.keyer, t.mixer.ctx, t.mixer.prevCtx) = (s.mixer.keyer, s.mixer.ctx, s.mixer.prevCtx) ∧
      t.banks = s.banks ∧ t.fades = s.fades
    (s.tickKind = .pixel → ∃ t : State, exec (.pixelClock index ref) s = .next t ∧ keeps t ∧
      pixelMade s t index ref s.mixer.pipeline s.store) ∧
    (s.tickKind = .lineSyncRelease → ∃ t : State, exec (.lineSyncRelease index ref) s = .next t ∧ keeps t ∧
      pixelMade s t index ref s.mixer.pipeline s.store) ∧
    (s.lockOk → s.tickKind = .lineStart → ∃ t : State, exec (.generatedLineStart index ⟨ref, between⟩) s = .next t ∧
      pixelMade s t index ref older (s.presents s.timing.naturalKey)) ∧
    (s.lockOk → s.tickKind = .midLine → ∃ t : State, exec (.midLineFieldStart index ⟨ref, between⟩) s = .next t ∧
      pixelMade s t index ref s.mixer.pipeline s.store) ∧
    (s.lockOk → s.tickKind = .jamCheck → ∀ j, s.timing.jamDue = some j →
      ∃ t : State, exec (.jamCheckComplete index ⟨ref, between⟩) s = .next t ∧
        (j.parity = .two ∧ s.timing.mode = .interlaced → pixelMade s t index ref s.mixer.pipeline s.store) ∧
        (¬(j.parity = .two ∧ s.timing.mode = .interlaced) →
          pixelMade s t index ref older (s.presents ⟨j.parity, 1⟩))) ∧
    (s.lockOk → s.tickKind = .restartCarry → ∃ t : State, exec (.timingRestartCarry index ⟨ref, between⟩) s = .next t ∧
      pixelMade s t index ref [] (s.presents ⟨.one, 1⟩))

/-- The carry that wraps the pixel counter starts the next line of the natural sequence: its key, line sync, the stamp in the
history, the new line context, the count of a pending jam check, the store's read with the line-1 result; a natural field start
that falls there is made first, and in HOLDOVER the lock engine counts it, ending at 0 in FREE with its reports. -/
def Obligations.LineStartFollowsNaturalSequence : Prop :=
  ∀ (s : State) (index : BitVec 4) (ref : Sample) (between : List Byte), s.tickKind = .lineStart →
    ∃ t : State, exec (.generatedLineStart index ⟨ref, between⟩) s = .next t ∧
      lineBegun s t ∧ t.timing.key = s.timing.naturalKey ∧ t.timing.frameRestart = false ∧ clockKeeps s t ∧
      lineRead s t s.timing.naturalKey ref ∧
      (s.timing.jam = none → t.timing.jam = none) ∧
      (∀ j, s.timing.jam = some j → 2 ≤ j.toCome → s.engine.lock ≠ .holdover →
        t.timing.jam = some { j with toCome := j.toCome - 1 }) ∧
      (∀ p, s.timing.naturalStart = some p → fieldStarted s t p between ∧ holdoverCounted s t) ∧
      (s.timing.naturalStart = none ∨ s.engine.lock ≠ .holdover → s.engine.lock ≠ .locked →
        t.engine = { s.engine with history := t.engine.history }) ∧
      (s.timing.naturalStart = none →
        t.timing.parity = s.timing.parity ∧ t.timing.count = s.timing.count ∧ t.timing.load = s.timing.load ∧
        t.timing.fieldSync = (match s.timing.fieldSync with
          | none => none
          | some n => if n ≤ 1 then none else some (n - 1)) ∧
        t.banks = s.banks ∧ t.fades = s.fades ∧ t.cues = s.cues ∧ t.mixer.keyer = s.mixer.keyer ∧
        t.mixer.keyerNext = s.mixer.keyerNext ∧ t.link = s.link ∧
        (s.store.active = true →
          t.reports.queues[(1 : Fin 4)] = (s.storeLookUp s.timing.naturalKey).1.reports.queues[(1 : Fin 4)]))

/-- The natural parity-2 field start of interlaced timing falls at mid-line: the field parity and the count change, the line
in progress keeps its key and its context, the store presents through it with nothing changed but the sample of the tick, and in
HOLDOVER the lock engine counts the field, ending at 0 in FREE with its reports, where a jam countdown is cancelled; a pending
one stands otherwise. -/
def Obligations.MidLineFieldStartKeepsLineKey : Prop :=
  ∀ (s : State) (index : BitVec 4) (ref : Sample) (between : List Byte), s.tickKind = .midLine →
    ∃ t : State, exec (.midLineFieldStart index ⟨ref, between⟩) s = .next t ∧ fieldStarted s t .two between ∧
      t.timing = { s.timing with
        acc := t.timing.acc, restartPending := false, pixel := s.timing.pixel + 1, parity := .two, count := t.timing.count, load := none
        fieldSync := some 3, newField := true, jam := t.timing.jam, lineSync := s.timing.lineSync.bind fun n =>
          if n ≤ 1 then none else some (n - 1) } ∧
      t.timing.pixel = s.timing.lpix / 2 ∧ clockKeeps s t ∧
      (s.engine.lock ≠ .holdover ∨ 2 ≤ s.engine.holdover → t.timing.jam = s.timing.jam) ∧
      (s.engine.lock = .holdover → s.engine.holdover ≤ 1 → t.timing.jam = none) ∧
      (s.engine.lock ≠ .holdover → t.store = s.store.sampleTick s.stamp ref) ∧
      (s.lockOk → s.store.slotsOk → t.store = s.store.sampleTick s.stamp ref) ∧
      (t.mixer.ctx, t.mixer.prevCtx, t.mixer.edits) = (s.mixer.ctx, s.mixer.prevCtx, s.mixer.edits) ∧
      t.engine.history = s.engine.history ∧ holdoverCounted s t ∧
      (s.engine.lock ≠ .holdover → t.engine = s.engine)

/-- A completed jam check: with the due key (p, 1) a match, which in ACQUIRE with a full lock run enters LOCKED, the drop run and
the miss run 0 before the line-1 result of the line that starts there; with any other a jam, the field start forced with frame restart and JAM posted with its signed shift. The due key plus the shift is line
(p, 1) around the frame, and the shift lies within half a frame. At mid-line the line
in progress keeps its key, and the store is unchanged but for the sample of the tick. That a check armed before a stay in LOCKED
counts so in ACQUIRE is the model's choice (log 34). -/
def Obligations.JamCheckMatchesOrJams : Prop :=
  (∀ (s : State) (index : BitVec 4) (ref : Sample) (between : List Byte) (j : Jam), s.tickKind = .jamCheck →
    s.timing.jamDue = some j →
    ∃ t : State, exec (.jamCheckComplete index ⟨ref, between⟩) s = .next t ∧ fieldStarted s t j.parity between ∧
      t.timing.jam = none ∧ clockKeeps s t ∧
      (j.parity = .two ∧ s.timing.mode = .interlaced →
        t.timing.key = s.timing.key ∧ t.timing.newField = true ∧ t.timing.pixel = s.timing.pixel + 1 ∧
        (s.engine.lock = .locked → t.engine = { s.engine with vmatch := decide (s.timing.naturalKey = ⟨j.parity, 1⟩) }) ∧
        (t.mixer.ctx, t.mixer.prevCtx, t.mixer.edits) = (s.mixer.ctx, s.mixer.prevCtx, s.mixer.edits) ∧
        t.engine.history = s.engine.history ∧
        (s.lockOk → s.store.slotsOk → t.store = s.store.sampleTick s.stamp ref)) ∧
      (¬(j.parity = .two ∧ s.timing.mode = .interlaced) →
        t.timing.key = ⟨j.parity, 1⟩ ∧ lineBegun s t ∧ lineRead s t ⟨j.parity, 1⟩ ref ∧
        (s.engine.lock = .locked → t.engine.lock = .locked → t.engine = { s.engine with
          vmatch := decide (s.timing.naturalKey = ⟨j.parity, 1⟩), missRun := t.engine.missRun, history := t.engine.history })) ∧
      (s.timing.naturalKey = ⟨j.parity, 1⟩ → s.engine.lock = .acquire →
        t.engine.vmatch = true ∧ t.engine.lock = (if s.engine.nLock ≤ s.engine.lockRun then .locked else .acquire) ∧
        (s.lockOk → t.engine =
          if s.engine.nLock ≤ s.engine.lockRun then { s.engine with
            vmatch := true, lock := .locked, unlocked := false, dropRun := 0, history := t.engine.history
            missRun := if j.parity = .two ∧ s.timing.mode = .interlaced then 0
              else if (s.storeLookUp ⟨j.parity, 1⟩).2 = true then 0 else 1 }
          else { s.engine with vmatch := true, history := t.engine.history }) ∧
        (s.cues.armed = [] → (s.reports.queues[(0 : Fin 4)]).length < 24 →
          ∃ count, (count = s.timing.count ∨ count = t.timing.count) ∧
            t.reports.queues[(0 : Fin 4)] = s.reports.queues[(0 : Fin 4)] ++
              recordsOf count (changePosts .acquire t.engine.lock false false))) ∧
      (s.timing.naturalKey ≠ ⟨j.parity, 1⟩ →
        t.engine.vmatch = false ∧ t.timing.frameRestart = true ∧
        (s.engine.lock = .acquire → t.engine = { s.engine with vmatch := false, history := t.engine.history }) ∧
        (s.engine.lock = .acquire → s.cues.armed = [] → (s.reports.queues[(0 : Fin 4)]).length < 24 →
          ∃ count, (count = s.timing.count ∨ count = t.timing.count) ∧
            t.reports.queues[(0 : Fin 4)] = s.reports.queues[(0 : Fin 4)] ++
              [⟨.jam, count, BitVec.ofNat 8 j.parity.code,
                BitVec.ofInt 16 (jamShift s.timing.standard j.parity s.timing.naturalKey)⟩]))) ∧
  (∀ (std : Standard) (p : Parity) (due : Key), 1 ≤ due.line → due.line ≤ fieldLength std due.parity →
    let index := fun k : Key => (k.line : Int) - 1 + if k.parity = .two then (fieldLength std .one : Int) else 0
    let n := jamShift std p due
    (index due + n - index ⟨p, 1⟩) % frameLength std = 0 ∧
    (std = .s625 → -312 ≤ n ∧ n ≤ 312) ∧ (std = .s525 → -262 ≤ n ∧ n ≤ 262))

/-- The restart carry: pixel 0 of line (1, 1) with its stamp and its line context, a field start of parity 1 with frame restart,
and the pixels still waiting discarded. -/
def Obligations.RestartCarryBeginsFrame : Prop :=
  ∀ (s : State) (index : BitVec 4) (ref : Sample) (between : List Byte), s.tickKind = .restartCarry →
    ∃ t : State, exec (.timingRestartCarry index ⟨ref, between⟩) s = .next t ∧ fieldStarted s t .one between ∧ clockKeeps s t ∧
      lineRead s t ⟨.one, 1⟩ ref ∧
      lineBegun s t ∧ t.timing.key = ⟨.one, 1⟩ ∧ t.timing.frameRestart = true ∧ t.timing.restartPending = false ∧
      t.mixer.pipeline.length ≤ 1 ∧ (0 < s.timing.latency → t.mixer.output.pixel = Sample.black)

/-! ## The line store -/

/-- A keyed reference line reaching an active store: a FILLED slot of the same key is freed, and the line takes the
lowest-numbered FREE slot, with the next write sequence number and every sample black; with none FREE it takes the oldest FILLED
slot, whose line is lost with DROP and SLIP. Every other slot stays. An UNNUMBERED line ends the sampling. An idle store takes
nothing. -/
def Obligations.StoreWriteFillsOneSlot : Prop :=
  (∀ (s : State) (l : RefLine), (s.store.active = false → s.storeWrite l = s) ∧
    (s.store.active = true → l.key = none → s.storeWrite l = s.setStore { s.store with sampling := none })) ∧
  ∀ (s : State) (l : RefLine) (k : Key), l.key = some k → s.store.slotsOk → s.store.active = true →
    let free := fun j : Fin 8 => s.store.role j = .free ∨ (s.store.role j = .filled ∧ (s.store.slots[j]).key = k)
    ∃ (i : Fin 8) (st : Store), (s.store.supersede k).choose = (some i, decide (∀ j, ¬free j)) ∧
      ((∃ j, free j) → free i ∧ (∀ j, j < i → ¬free j) ∧ s.storeWrite l = s.setStore st) ∧
      ((∀ j, ¬free j) →
        s.store.role i = .filled ∧ (∀ j, s.store.role j = .filled → s.store.age j ≤ s.store.age i) ∧
        s.storeWrite l = ((s.setStore st).post ⟨1, .drop, 1, BitVec.ofNat 16 (s.store.slots[i]).key.code⟩).latch 5) ∧
      st.slots[i] = ⟨.filled, k, s.store.seq, l.synthetic, l.step.isSome, []⟩ ∧
      (∀ j : Fin 8, j ≠ i →
        st.slots[j] = if s.store.role j = .filled ∧ (s.store.slots[j]).key = k then Slot.cleared else s.store.slots[j]) ∧
      st = { s.store with
        slots := st.slots, seq := s.store.seq + 1, sampling := if l.synthetic then none else some ⟨i, l.stamp⟩ }

/-- Sampling: at a sample instant sample k, counted from 3,584 fu after the line's stamp in steps of 32 fu, goes into the
sampling slot and into no other place, and sampling ends with sample 639; a tick that is no sample instant, or comes before
sample 0, takes none. Output: black without a slot to show, for a SYNTHETIC one and outside the samples, and else the sample of
the horizontal mapping. -/
def Obligations.SamplesArePlacedAndMappedToPixels : Prop :=
  (∀ (st : Store) (sp : Sampling) (reading : Stamp) (ref : Sample), st.slotsOk → st.sampling = some sp →
    let t := st.sampleTick reading ref
    let late := stampDiff reading sp.stamp - 3584
    (reading.toNat % 32 ≠ 0 ∨ late < 0 → t = st) ∧
    (∀ k : Nat, reading.toNat % 32 = 0 → k < 640 → 32 * (k : Int) ≤ late → late < 32 * (k : Int) + 32 →
      Samples.read (t.slots[sp.slot]).samples k = ref ∧
      (∀ j, j ≠ k → Samples.read (t.slots[sp.slot]).samples j = Samples.read (st.slots[sp.slot]).samples j) ∧
      (∀ i : Fin 8, i ≠ sp.slot → t.slots[i] = st.slots[i]) ∧
      t.sampling = if k = 639 then none else some sp)) ∧
  ∀ (st : Store) (std : Standard) (lpix x : Nat),
    let j : Int := ((x * sline std / lpix : Nat) : Int) + st.hLine - 112
    (st.shown = none → st.output std lpix x = Sample.black) ∧
    ∀ i : Fin 8, st.shown = some i →
      ((st.slots[i]).synthetic = true → st.output std lpix x = Sample.black) ∧
      ((st.slots[i]).synthetic = false → j < 0 ∨ 640 ≤ j → st.output std lpix x = Sample.black) ∧
      ((st.slots[i]).synthetic = false → 0 ≤ j → j < 640 →
        st.output std lpix x = Samples.read (st.slots[i]).samples j.toNat)

/-- A generated line's key looked up in the store: found, the slot is SHOWN with its line as it stood and the previous SHOWN and the older FILLED slots
are FREE, the older lines reported as one DROP with their number and the key of the oldest, which latches SLIP; not found with
lines waiting, a repeat that keeps the slots, posts REPEAT and latches SLIP; with none waiting, starved, and nothing is shown.
REPEAT tells a slot shown again by 1, SYNTHETIC or not (the model's choice: log 32). -/
def Obligations.StoreReadFindsRepeatsOrStarves : Prop :=
  ∀ (s : State) (k : Key), s.store.slotsOk →
    (∀ i, s.store.role i = .filled → (s.store.slots[i]).key = k →
      (s.storeLookUp k).2 = true ∧ (s.storeLookUp k).1.store.shown = some i ∧
      (s.storeLookUp k).1.store.slots[i] = { s.store.slots[i] with role := .shown } ∧
      (∀ j, j ≠ i → s.store.role j = .filled → s.store.age j ≤ s.store.age i →
        (s.storeLookUp k).1.store.slots[j] = s.store.slots[j]) ∧
      (∀ j, s.store.role j = .filled → s.store.age i < s.store.age j → (s.storeLookUp k).1.store.role j = .free) ∧
      (∀ j, s.store.role j = .shown → (s.storeLookUp k).1.store.role j = .free) ∧
      (let older := (List.finRange 8).filter fun j => s.store.role j = .filled ∧ s.store.age i < s.store.age j
       (older = [] → (s.storeLookUp k).1 = s.setStore (s.storeLookUp k).1.store) ∧
       (older ≠ [] → ∃ j ∈ older, (∀ j' ∈ older, s.store.age j' ≤ s.store.age j) ∧
         (s.storeLookUp k).1 = ((s.setStore (s.storeLookUp k).1.store).post
           ⟨1, .drop, BitVec.ofNat 8 older.length, BitVec.ofNat 16 (s.store.slots[j]).key.code⟩).latch 5))) ∧
    ((∀ i, s.store.role i = .filled → (s.store.slots[i]).key ≠ k) → (∃ i, s.store.role i = .filled) →
      s.storeLookUp k = ((s.post ⟨1, .repeated, if s.store.shown.isSome then 1 else 0, BitVec.ofNat 16 k.code⟩).latch 5,
        false)) ∧
    ((∀ i, s.store.role i ≠ .filled) →
      (s.storeLookUp k).2 = false ∧ (s.storeLookUp k).1.store.shown = none ∧
      (∀ j, (s.storeLookUp k).1.store.role j = .free) ∧ (s.storeLookUp k).1.reports = s.reports)

/-! ## The mixer -/

/-- REPLACE: v + floor(((c − v) × α + 128)/256), which lies between v and c, is v at α = 0 and c at α = 256, for each
of the three components; of legal video and a legal colour it needs no limiting. ADD: the
luminance is v + floor(((c − 16) × α + 128)/256), raised by 0 to 219; the colour-difference components are those of REPLACE. -/
def Obligations.ReplaceAndAddMixVideoWithColour : Prop :=
  (∀ (v c : Byte) (α : Nat), α ≤ 256 →
    mixReplace v c α = (v.toNat : Int) + (((c.toNat : Int) - v.toNat) * α + 128) / 256 ∧
    (min v.toNat c.toNat : Int) ≤ mixReplace v c α ∧ mixReplace v c α ≤ (max v.toNat c.toNat : Int) ∧
    (α = 0 → mixReplace v c α = v.toNat) ∧ (α = 256 → mixReplace v c α = c.toNat)) ∧
  (∀ (v c : Sample) (α : Nat), α ≤ 256 →
    mixSample v c α .replace = (mixReplace v.y c.y α, mixReplace v.cb c.cb α, mixReplace v.cr c.cr α) ∧
    (legal v → legal c → (limitSample (mixSample v c α .replace)).2 = false)) ∧
  (∀ (v c : Sample) (α : Nat), α ≤ 256 → 16 ≤ c.y.toNat → c.y.toNat ≤ 235 →
    mixSample v c α .add = ((v.y.toNat : Int) + (((c.y.toNat : Int) - 16) * α + 128) / 256,
      mixReplace v.cb c.cb α, mixReplace v.cr c.cr α) ∧
    (v.y.toNat : Int) ≤ (mixSample v c α .add).1 ∧ (mixSample v c α .add).1 ≤ (v.y.toNat : Int) + 219 ∧
    (c.y.toNat = 16 → (mixSample v c α .add).1 = v.y.toNat) ∧
    (c.y.toNat = 235 → α = 256 → (mixSample v c α .add).1 = (v.y.toNat : Int) + 219))

/-- The key level: 0 with the keyer off; on a matte line 256 under FULL and 0 under HIDE; else by the lowest-numbered enabled
window that contains the pixel and the class of the colour, the level of a generator being floor((L + 128)/256); at most 256
when the levels are in range. -/
def Obligations.KeyLevelIsFirstAnswerOfFour : Prop :=
  ∀ (p : Pixel) (ctx : LineContext) (cls : ColourClass),
    (p.keyer = false → p.keyLevel ctx cls = (0, .replace)) ∧
    (p.keyer = true → ctx.source = .matte → ctx.policy = .full → p.keyLevel ctx cls = (256, .replace)) ∧
    (p.keyer = true → ctx.source = .matte → ctx.policy = .hide → p.keyLevel ctx cls = (0, .replace)) ∧
    (p.keyer = true → ctx.source = .store ∨ ctx.policy = .keep →
      ((∀ i : Fin 8, ¬((p.windows[i]).enabled = true ∧ (p.windows[i]).contains p.key.line p.x = true)) →
        p.keyLevel ctx cls = (0, .replace)) ∧
      (∀ i : Fin 8, (p.windows[i]).enabled = true → (p.windows[i]).contains p.key.line p.x = true →
        (∀ j : Fin 8, j < i → ¬((p.windows[j]).enabled = true ∧ (p.windows[j]).contains p.key.line p.x = true)) →
        let level : Nat :=
          match (p.windows[i]).level with
          | .fixed l => l
          | .gen g => (p.levels[g] + 128) / 256
        p.keyLevel ctx cls =
          (match cls with
            | .clear => 0
            | .solid => level
            | .half => level / 2, (p.windows[i]).mode))) ∧
    ((∀ i : Fin 8, (p.windows[i]).level.ok) → (∀ g : Fin 4, p.levels[g] ≤ 65536) → (p.keyLevel ctx cls).1 ≤ 256)

/-- A write of a keyer value, by the three cases; KEYER answers with the state and the pending state after the write, and any
other value is refused. -/
def Obligations.KeyerWriteHasThreeCases : Prop :=
  (∀ (m : Mixer) (v : Bool),
    (v ≠ m.keyer → m.writeKeyer v = { m with keyerNext := some v }) ∧
    (v = m.keyer → m.keyerNext.isSome = true → m.writeKeyer v = { m with keyerNext := none }) ∧
    (v = m.keyer → m.keyerNext = none → m.writeKeyer v = m) ∧
    (m.writeKeyer v).keyerNext.getD (m.writeKeyer v).keyer = v) ∧
  ∀ (s : State) (b : Byte), s.takes 0x33 [b] →
    (∀ v : Bool, b.toNat = boolCode v →
      exec (.keyer [b]) s = .next ((s.setMixer (s.mixer.writeKeyer v)).replied 0x33 .ok
        [BitVec.ofNat 8 (boolCode s.mixer.keyer),
          match (s.mixer.writeKeyer v).keyerNext with
          | none => 255
          | some k => BitVec.ofNat 8 (boolCode k)])) ∧
    (2 ≤ b.toNat → exec (.keyer [b]) s = .next (s.replied 0x33 .badParam []))

/-- SET COLOUR, SET MATTE and SET LOSS POLICY: the stored setting takes the clamped value, a change sets edits awaiting, the
line context stays; an index or an enumeration that names nothing is refused. -/
def Obligations.MixerSettingsAwaitLineStart : Prop :=
  (∀ (s : State) (i y cb cr c : Byte), s.takes 0x30 [i, y, cb, cr, c] →
    (∀ (index : Fin 16) (cls : ColourClass), i.toNat = index.val → c.toNat = cls.code →
      let entry : ColourEntry := ⟨legalColour y.toNat cb.toNat cr.toNat, cls⟩
      exec (.setColour [i, y, cb, cr, c]) s = .next ((s.setMixer (if s.mixer.table[index] = entry then s.mixer else
        { s.mixer with table := s.mixer.table.set index entry, edits := true })).replied 0x30 .ok
          [i, entry.colour.y, entry.colour.cb, entry.colour.cr, c]) ∧ legal entry.colour) ∧
    (16 ≤ i.toNat ∨ 3 ≤ c.toNat → exec (.setColour [i, y, cb, cr, c]) s = .next (s.replied 0x30 .badParam []))) ∧
  (∀ (s : State) (y cb cr : Byte), s.takes 0x31 [y, cb, cr] →
    let v := legalColour y.toNat cb.toNat cr.toNat
    exec (.setMatte [y, cb, cr]) s = .next ((s.setMixer (if s.mixer.matte = v then s.mixer else
      { s.mixer with matte := v, edits := true })).replied 0x31 .ok [v.y, v.cb, v.cr]) ∧ legal v) ∧
  (∀ (s : State) (b : Byte), s.takes 0x32 [b] →
    (∀ policy : LossPolicy, b.toNat = policy.code →
      exec (.setLossPolicy [b]) s = .next ((s.setMixer (if s.mixer.policy = policy then s.mixer else
        { s.mixer with policy := policy, edits := true })).replied 0x32 .ok [b])) ∧
    (3 ≤ b.toNat → exec (.setLossPolicy [b]) s = .next (s.replied 0x32 .badParam [])))

/-! ## Banks and fades -/

/-- WINDOW SET, WINDOW CLEAR and BANK SWAP: an edit that names no bank or window or carries no record is refused, and so is one
on the live bank or while a swap is pending; else the staged window takes the record. A swap becomes pending once. -/
def Obligations.BankRequestsEditStagedBankAndPendSwap : Prop :=
  (∀ (s : State) (b i e t0 t1 b0 b1 l0 l1 r0 r1 m k v0 v1 : Byte) (n : BankName) (index : Fin 8) (w : Window),
    let ps := [b, i, e, t0, t1, b0, b1, l0, l1, r0, r1, m, k, v0, v1]
    s.takes 0x34 ps → b.toNat = n.code → i.toNat = index.val →
    windowOf e.toNat (256 * t0.toNat + t1.toNat) (256 * b0.toNat + b1.toNat) (256 * l0.toNat + l1.toNat)
      (256 * r0.toNat + r1.toNat) m.toNat k.toNat (256 * v0.toNat + v1.toNat) = some w →
    (n = s.banks.live ∨ s.banks.swap.isSome = true → exec (.windowSet ps) s = .next (s.replied 0x34 .wrongState [])) ∧
    (n ≠ s.banks.live → s.banks.swap = none →
      exec (.windowSet ps) s = .next ((s.setBanks (s.banks.setWindows n ((s.banks.windows n).set index w))).replied 0x34 .ok
        w.bytes) ∧ w.ok) ∧
    w = ⟨e = 1, clampNat 1 313 (256 * t0.toNat + t1.toNat), clampNat 1 313 (256 * b0.toNat + b1.toNat),
      clampNat 0 2047 (256 * l0.toNat + l1.toNat), clampNat 0 2047 (256 * r0.toNat + r1.toNat),
      if m = 0 then .replace else .add,
      if k = 0 then .fixed (clampNat 0 256 (256 * v0.toNat + v1.toNat))
        else .gen (BitVec.ofNat 2 (256 * v0.toNat + v1.toNat)).toFin⟩) ∧
  (∀ (s : State) (b i e t0 t1 b0 b1 l0 l1 r0 r1 m k v0 v1 : Byte),
    let ps := [b, i, e, t0, t1, b0, b1, l0, l1, r0, r1, m, k, v0, v1]
    s.takes 0x34 ps →
    2 ≤ b.toNat ∨ 8 ≤ i.toNat ∨ 2 ≤ e.toNat ∨ 2 ≤ m.toNat ∨ 2 ≤ k.toNat ∨
      (k = 1 ∧ 3 < 256 * v0.toNat + v1.toNat) →
    exec (.windowSet ps) s = .next (s.replied 0x34 .badParam [])) ∧
  (∀ (s : State) (b i : Byte), s.takes 0x35 [b, i] → 2 ≤ b.toNat ∨ 8 ≤ i.toNat →
    exec (.windowClear [b, i]) s = .next (s.replied 0x35 .badParam [])) ∧
  (∀ (s : State) (b i : Byte) (n : BankName) (index : Fin 8), s.takes 0x35 [b, i] → b.toNat = n.code → i.toNat = index.val →
    (n = s.banks.live ∨ s.banks.swap.isSome = true →
      exec (.windowClear [b, i]) s = .next (s.replied 0x35 .wrongState [])) ∧
    (n ≠ s.banks.live → s.banks.swap = none →
      exec (.windowClear [b, i]) s =
        .next ((s.setBanks (s.banks.setWindows n ((s.banks.windows n).set index Window.cleared))).replied 0x35 .ok
          Window.cleared.bytes))) ∧
  (∀ (s : State) (b : Byte), s.takes 0x36 [b] →
    (2 ≤ b.toNat → exec (.bankSwap [b]) s = .next (s.replied 0x36 .badParam [])) ∧
    (b.toNat < 2 → s.banks.swap.isSome = true → exec (.bankSwap [b]) s = .next (s.replied 0x36 .busy [])) ∧
    (∀ copy : Bool, b.toNat = boolCode copy → s.banks.swap = none →
      exec (.bankSwap [b]) s = .next ((s.setBanks { s.banks with swap := some copy }).replied 0x36 .ok
        [BitVec.ofNat 8 s.banks.live.code, 1])))

/-- A generator at the end of a walk. Marked: it loses its mark and makes no step. IDLE: no step. Running, STOP: the level moves
by the step, held by the bounds, and at its end the generator is IDLE and FADE_END is posted with its number and its α. WRAP:
round its range, with no end. BOUNCE: reflected at a bound it would pass, the step then negated. -/
def Obligations.FadeStepsMoveLevel : Prop :=
  (∀ f : Fade, f.kind = .stop → f.run = true → f.mark = false → f.lo ≤ f.hi →
    let l : Int := if (f.level : Int) + f.step < f.lo then f.lo else if (f.hi : Int) < f.level + f.step then f.hi
      else f.level + f.step
    let ended := decide ((0 < f.step ∧ l = f.hi) ∨ (f.step < 0 ∧ l = f.lo))
    f.endWalk = ({ f with level := l.toNat, run := !ended }, ended) ∧
    (f.step = 0 → f.lo ≤ f.level → f.level ≤ f.hi → f.endWalk = (f, false))) ∧
  (∀ f : Fade, f.kind = .wrap → f.run = true → f.mark = false → f.lo ≤ f.hi →
    let m : Int := (f.hi : Int) - f.lo + 1
    f.endWalk = ({ f with level := ((f.lo : Int) + ((f.level : Int) - f.lo + f.step) % m).toNat }, false) ∧
    f.lo ≤ f.endWalk.1.level ∧ f.endWalk.1.level ≤ f.hi ∧ (f.lo = f.hi → f.endWalk.1.level = f.lo)) ∧
  (∀ f : Fade, f.kind = .bounce → f.run = true → f.ok →
    let l : Int := (f.level : Int) + f.step
    ((f.hi : Int) < l → f.endWalk = ({ f with level := (2 * (f.hi : Int) - l).toNat, step := -f.step }, false)) ∧
    (l < f.lo → f.endWalk = ({ f with level := (2 * (f.lo : Int) - l).toNat, step := -f.step }, false)) ∧
    (f.lo ≤ l → l ≤ f.hi → f.endWalk = ({ f with level := l.toNat }, false)) ∧
    f.lo ≤ f.endWalk.1.level ∧ f.endWalk.1.level ≤ f.hi) ∧
  (∀ f : Fade, (f.mark = true → f.endWalk = ({ f with mark := false }, false)) ∧
    (f.mark = false → f.run = false → f.endWalk = (f, false))) ∧
  (∀ (fs : Vector Fade 4) (g : Fin 4), fadePosts fs g =
    if (fs[g]).endWalk.2 = true then
      [⟨2, .fadeEnd, BitVec.ofNat 8 g.val, BitVec.ofNat 16 (((fs[g]).endWalk.1.level + 128) / 256)⟩]
    else [])

/-- FADE LOAD, FADE HOLD, FADE RESUME and QUERY FADE: a load that passes its checks sets values and RUN, a hold and a resume
change the run state alone, the reply is the generator's record, and an index above 3 is refused. -/
def Obligations.FadeRequestsLoadHoldAndResume : Prop :=
  (∀ (s : State) (g l0 l1 l2 t0 t1 a0 a1 a2 h0 h1 h2 k : Byte),
    let ps := [g, l0, l1, l2, t0, t1, a0, a1, a2, h0, h1, h2, k]
    let level := 65536 * l0.toNat + 256 * l1.toNat + l2.toNat
    let step := (BitVec.ofNat 16 (256 * t0.toNat + t1.toNat)).toInt
    let lo := clampNat 0 65536 (65536 * a0.toNat + 256 * a1.toNat + a2.toNat)
    let hi := clampNat 0 65536 (65536 * h0.toNat + 256 * h1.toNat + h2.toNat)
    let refused := 4 ≤ g.toNat ∨ 3 ≤ k.toNat ∨ hi < lo ∨ (k = 1 ∧ hi - lo + 1 ≤ step.natAbs) ∨
      (k = 2 ∧ (hi - lo < step.natAbs ∨ step = -32768))
    s.takes 0x40 ps →
    (refused → exec (.fadeLoad ps) s = .next (s.replied 0x40 .badParam [])) ∧
    (¬refused → ∀ (gen : Fin 4) (kind : FadeKind), g.toNat = gen.val → k.toNat = kind.code →
      let f : Fade := ⟨true, kind, clampNat lo hi (clampNat 0 65536 level), step, lo, hi, (s.fades[gen]).mark⟩
      exec (.fadeLoad ps) s = .next ((s.setFades (s.fades.set gen f)).replied 0x40 .ok f.bytes))) ∧
  ∀ (s : State) (b : Byte),
    (∀ gen : Fin 4, b.toNat = gen.val →
      (s.takes 0x41 [b] → exec (.fadeHold [b]) s =
        .next ((s.setFades (s.fades.set gen { s.fades[gen] with run := false })).replied 0x41 .ok
          { s.fades[gen] with run := false }.bytes)) ∧
      (s.takes 0x42 [b] → exec (.fadeResume [b]) s =
        .next ((s.setFades (s.fades.set gen { s.fades[gen] with run := true })).replied 0x42 .ok
          { s.fades[gen] with run := true }.bytes)) ∧
      (s.takes 0x43 [b] → exec (.queryFade [b]) s = .next (s.replied 0x43 .ok (s.fades[gen]).bytes) ∧
        (s.fades[gen]).bytes.length = 15)) ∧
    (4 ≤ b.toNat →
      (s.takes 0x41 [b] → exec (.fadeHold [b]) s = .next (s.replied 0x41 .badParam [])) ∧
      (s.takes 0x42 [b] → exec (.fadeResume [b]) s = .next (s.replied 0x42 .badParam [])) ∧
      (s.takes 0x43 [b] → exec (.queryFade [b]) s = .next (s.replied 0x43 .badParam [])))

/-! ## Cues -/

/-- CUE NEW takes the head of FREE to the tail of ARMED or HELD with the content checked; CUE SET rewrites a cue on HELD or
DONE; malformed ones, an empty FREE and a cue on another list are refused in that order. -/
def Obligations.CueNewAndCueSetStoreContent : Prop :=
  (∀ (s : State) (l : Byte) (bs : List Byte), s.takes 0x50 (l :: bs) → bs.length = 24 → s.cues.ok →
    (l ≠ 1 ∧ l ≠ 2 ∨ contentOf bs = none → exec (.cueNew (l :: bs)) s = .next (s.replied 0x50 .badParam [])) ∧
    (∀ (list : CueList) (content : CueContent), list = .armed ∨ list = .held → l.toNat = list.code →
      contentOf bs = some content →
      (s.cues.free = [] → exec (.cueNew (l :: bs)) s = .next (s.replied 0x50 .noSpace [])) ∧
      (∀ (i : Fin 64) (rest : List (Fin 64)), s.cues.free = i :: rest →
        ∃ p : CuePool,
          exec (.cueNew (l :: bs)) s =
            .next ((s.setCues p).replied 0x50 .ok (BitVec.ofNat 8 i.val :: content.bytes)) ∧
          p.records = s.cues.records.set i ⟨content, false⟩ ∧ p.free = rest ∧ p.on list = s.cues.on list ++ [i] ∧
          ∀ other, other ≠ .free → other ≠ list → p.on other = s.cues.on other))) ∧
  ∀ (s : State) (v : Byte) (bs : List Byte), s.takes 0x51 (v :: bs) → bs.length = 24 →
    (64 ≤ v.toNat ∨ contentOf bs = none → exec (.cueSet (v :: bs)) s = .next (s.replied 0x51 .badParam [])) ∧
    (∀ (i : Fin 64) (content : CueContent), v.toNat = i.val → contentOf bs = some content →
      (s.cues.listOf i = .free ∨ s.cues.listOf i = .armed →
        exec (.cueSet (v :: bs)) s = .next (s.replied 0x51 .wrongState [])) ∧
      (s.cues.listOf i = .held ∨ s.cues.listOf i = .done →
        exec (.cueSet (v :: bs)) s = .next ((s.setCues { s.cues with
          records := s.cues.records.set i ⟨content, (s.cues.records[i]).pending⟩ }).replied 0x51 .ok content.bytes)))

/-- CUE MOVE, CUE PLACE and CUE DISCARD take a cue off its list and put it where it is asked, keeping the order of every
other cue; cues on FREE, indices that name nothing and i equal to j are refused. -/
def Obligations.CueMovesKeepOtherCuesInOrder : Prop :=
  (∀ (s : State) (v l p : Byte), s.takes 0x52 [v, l, p] → s.cues.ok →
    (64 ≤ v.toNat ∨ l.toNat = 0 ∨ 4 ≤ l.toNat ∨ 2 ≤ p.toNat →
      exec (.cueMove [v, l, p]) s = .next (s.replied 0x52 .badParam [])) ∧
    (∀ (i : Fin 64) (list : CueList), v.toNat = i.val → list ≠ .free → l.toNat = list.code → p.toNat < 2 →
      (i ∈ s.cues.free → exec (.cueMove [v, l, p]) s = .next (s.replied 0x52 .wrongState [])) ∧
      (i ∉ s.cues.free →
        ∃ q : CuePool, exec (.cueMove [v, l, p]) s = .next ((s.setCues q).replied 0x52 .ok (q.placeBytes i)) ∧
          q.records = s.cues.records ∧
          q.on list = (if p = 0 then i :: (s.cues.on list).erase i else (s.cues.on list).erase i ++ [i]) ∧
          ∀ other, other ≠ list → q.on other = (s.cues.on other).erase i))) ∧
  (∀ (s : State) (v w : Byte), s.takes 0x53 [v, w] → s.cues.ok →
    (64 ≤ v.toNat ∨ 64 ≤ w.toNat ∨ v = w → exec (.cuePlace [v, w]) s = .next (s.replied 0x53 .badParam [])) ∧
    (∀ i j : Fin 64, v.toNat = i.val → w.toNat = j.val → i ≠ j →
      (i ∈ s.cues.free ∨ j ∈ s.cues.free → exec (.cuePlace [v, w]) s = .next (s.replied 0x53 .wrongState [])) ∧
      (i ∉ s.cues.free → ∀ (list : CueList) (before after : List (Fin 64)), list ≠ .free →
        (s.cues.on list).erase i = before ++ j :: after → j ∉ before →
        ∃ q : CuePool, exec (.cuePlace [v, w]) s = .next ((s.setCues q).replied 0x53 .ok (q.placeBytes i)) ∧
          q.records = s.cues.records ∧ q.on list = before ++ i :: j :: after ∧
          ∀ other, other ≠ list → q.on other = (s.cues.on other).erase i))) ∧
  (∀ (s : State) (v : Byte), s.takes 0x54 [v] → s.cues.ok →
    (64 ≤ v.toNat → exec (.cueDiscard [v]) s = .next (s.replied 0x54 .badParam [])) ∧
    (∀ i : Fin 64, v.toNat = i.val →
      (i ∈ s.cues.free → exec (.cueDiscard [v]) s = .next (s.replied 0x54 .wrongState [])) ∧
      (i ∉ s.cues.free →
        ∃ q : CuePool, exec (.cueDiscard [v]) s =
            .next ((s.setCues q).replied 0x54 .ok [BitVec.ofNat 8 (s.cues.free.length + 1)]) ∧
          q.records = s.cues.records.set i { s.cues.records[i] with pending := false } ∧
          q.free = s.cues.free ++ [i] ∧ ∀ other, other ≠ .free → q.on other = (s.cues.on other).erase i)))

/-- CUE READ, CUE LIST and CUE COLLECT: the record, the order of a list, and the pending cue of the lowest index, whose flag
is cleared; an empty pending set is answered EMPTY. -/
def Obligations.CueReadListAndCollectAnswer : Prop :=
  (∀ (s : State) (v : Byte), s.takes 0x55 [v] →
    (64 ≤ v.toNat → exec (.cueRead [v]) s = .next (s.replied 0x55 .badParam [])) ∧
    (∀ i : Fin 64, v.toNat = i.val →
      exec (.cueRead [v]) s = .next (s.replied 0x55 .ok (s.cues.placeBytes i ++ (s.cues.records[i]).content.bytes ++
        [BitVec.ofNat 8 (boolCode (s.cues.records[i]).pending)])))) ∧
  (∀ (s : State) (v : Byte), s.takes 0x56 [v] →
    (4 ≤ v.toNat → exec (.cueList [v]) s = .next (s.replied 0x56 .badParam [])) ∧
    (∀ list : CueList, v.toNat = list.code →
      exec (.cueList [v]) s = .next (s.replied 0x56 .ok
        (BitVec.ofNat 8 (s.cues.on list).length :: (s.cues.on list).map fun i => BitVec.ofNat 8 i.val)))) ∧
  (∀ s : State, s.takes 0x57 [] →
    ((∀ i : Fin 64, (s.cues.records[i]).pending = false) →
      exec (.cueCollect []) s = .next (s.replied 0x57 .empty [])) ∧
    (∀ i : Fin 64, (s.cues.records[i]).pending = true → (∀ j : Fin 64, j < i → (s.cues.records[j]).pending = false) →
      ∃ left : Nat, left + 1 = (List.finRange 64).countP (fun j => (s.cues.records[j]).pending) ∧
        exec (.cueCollect []) s = .next ((s.setCues { s.cues with
          records := s.cues.records.set i { s.cues.records[i] with pending := false } }).replied 0x57 .ok
            (BitVec.ofNat 8 i.val :: bytesOf 2 (s.cues.records[i]).content.tag.toNat ++
              [BitVec.ofNat 8 (s.cues.listOf i).code, BitVec.ofNat 8 left]))))

/-- A cue fires exactly when ((F XOR T) AND M) = 0, and one that does not fire is left as it is without a report. A firing
performs the action, sets the pending flag, posts CUE_FIRED with index and tag to the queue of the route, or nothing for NONE,
and moves a ONCE cue to DONE. The walk visits the cues that stood on ARMED when it began, each once in their order, and answers
their reports in that order. In the walk of a field start a cue on ARMED that matches becomes pending and, if it is a ONCE cue,
moves to DONE; one that does not match stays; contents and every cue that was on FREE or DONE stay as they were. -/
def Obligations.WalkFiresMatchingArmedCues : Prop :=
  (∀ (s : State) (f : Count) (i : Fin 64) (ps : List Post),
    ((s.cues.records[i]).content.fires f = true ↔
      (f ^^^ (s.cues.records[i]).content.trigger) &&& (s.cues.records[i]).content.mask = 0) ∧
    ((f ^^^ (s.cues.records[i]).content.trigger) &&& (s.cues.records[i]).content.mask ≠ 0 →
      State.visit f (s, ps) i = (s, ps)) ∧
    ((f ^^^ (s.cues.records[i]).content.trigger) &&& (s.cues.records[i]).content.mask = 0 →
      State.visit f (s, ps) i = ((s.fire i).1, ps ++ (s.fire i).2))) ∧
  (∀ (s : State) (i : Fin 64),
    let c := (s.cues.records[i]).content
    let acted := s.act i c.action
    let flagged := { acted.1.cues with
      records := acted.1.cues.records.set i { acted.1.cues.records[i] with pending := true } }
    (s.fire i).1 = acted.1.setCues (if c.repeats then flagged else flagged.move i .done .tail) ∧
    (s.fire i).2 = acted.2 ++ (match c.route with
      | some q => [⟨q, .cueFired, BitVec.ofNat 8 i.val, c.tag⟩]
      | none => [])) ∧
  (∀ (s : State) (f : Count), s.walk f = s.cues.armed.foldl (State.visit f) (s, [])) ∧
  ∀ (s : State) (f : Count), s.cues.ok →
    let t := (s.walk f).1
    (∀ i : Fin 64, (t.cues.records[i]).content = (s.cues.records[i]).content) ∧
    (∀ i ∈ s.cues.armed, (s.cues.records[i]).content.fires f = true →
      (t.cues.records[i]).pending = true ∧
      ((s.cues.records[i]).content.repeats = false → i ∈ t.cues.done) ∧
      ((s.cues.records[i]).content.repeats = true → i ∈ t.cues.armed)) ∧
    (∀ i ∈ s.cues.armed, (s.cues.records[i]).content.fires f = false →
      i ∈ t.cues.armed ∧ (t.cues.records[i]).pending = (s.cues.records[i]).pending) ∧
    (∀ i, i ∉ s.cues.armed → (t.cues.records[i]).pending = (s.cues.records[i]).pending) ∧
    t.cues.free = s.cues.free ∧ s.cues.done <+: t.cues.done

/-- The actions of a firing cue: a swap write, skipped when one is pending; a marked load or hold of a generator; a keyer
write; an arming of a held cue, skipped when it is not held; a mark. -/
def Obligations.CueActionsReachTheirUnits : Prop :=
  ∀ (s : State) (i : Fin 64),
    (∀ copy, s.banks.swap = none → s.act i (.swap copy) = (s.setBanks { s.banks with swap := some copy }, [])) ∧
    (∀ copy, s.banks.swap.isSome = true →
      s.act i (.swap copy) = (s, [⟨2, .cueSkipped, BitVec.ofNat 8 i.val, 256⟩])) ∧
    (∀ (g : Fin 4) (p : FadeParams), s.act i (.fade g p) =
      (s.setFades (s.fades.set g ⟨true, p.kind, p.level, p.step, p.lo, p.hi, true⟩), [])) ∧
    (∀ g : Fin 4, s.act i (.fadeHold g) =
      (s.setFades (s.fades.set g { s.fades[g] with run := false, mark := true }), [])) ∧
    (∀ v, s.act i (.keyer v) = (s.setMixer (s.mixer.writeKeyer v), [])) ∧
    (∀ j : Fin 64, s.cues.ok → j ∈ s.cues.held → s.act i (.arm j) =
      (s.setCues { s.cues with armed := s.cues.armed ++ [j], held := s.cues.held.erase j }, [])) ∧
    (∀ j : Fin 64, j ∉ s.cues.held →
      s.act i (.arm j) = (s, [⟨2, .cueSkipped, BitVec.ofNat 8 i.val, BitVec.ofNat 16 (512 + j.val)⟩])) ∧
    s.act i .mark = (s, [])
end

