-- ==== Sys2Proof/Laws/State.lean ====
section
/-! SUPPORT. What each update of one unit does to every field of the state. -/

namespace Sys2Proof.Machine

section
variable (s : State) (x : Stamp)
@[simp] theorem State.setStamp_stamp : (s.setStamp x).stamp = x := rfl
@[simp] theorem State.setStamp_pulse : (s.setStamp x).pulse = s.pulse := rfl
@[simp] theorem State.setStamp_classifier : (s.setStamp x).classifier = s.classifier := rfl
@[simp] theorem State.setStamp_engine : (s.setStamp x).engine = s.engine := rfl
@[simp] theorem State.setStamp_timing : (s.setStamp x).timing = s.timing := rfl
@[simp] theorem State.setStamp_store : (s.setStamp x).store = s.store := rfl
@[simp] theorem State.setStamp_mixer : (s.setStamp x).mixer = s.mixer := rfl
@[simp] theorem State.setStamp_banks : (s.setStamp x).banks = s.banks := rfl
@[simp] theorem State.setStamp_fades : (s.setStamp x).fades = s.fades := rfl
@[simp] theorem State.setStamp_cues : (s.setStamp x).cues = s.cues := rfl
@[simp] theorem State.setStamp_reports : (s.setStamp x).reports = s.reports := rfl
@[simp] theorem State.setStamp_link : (s.setStamp x).link = s.link := rfl
@[simp] theorem State.setStamp_draw : (s.setStamp x).draw = s.draw := rfl
@[simp] theorem State.setStamp_pending : (s.setStamp x).pending = s.pending := rfl
end

section
variable (s : State) (x : Pulse)
@[simp] theorem State.setPulse_stamp : (s.setPulse x).stamp = s.stamp := rfl
@[simp] theorem State.setPulse_pulse : (s.setPulse x).pulse = x := rfl
@[simp] theorem State.setPulse_classifier : (s.setPulse x).classifier = s.classifier := rfl
@[simp] theorem State.setPulse_engine : (s.setPulse x).engine = s.engine := rfl
@[simp] theorem State.setPulse_timing : (s.setPulse x).timing = s.timing := rfl
@[simp] theorem State.setPulse_store : (s.setPulse x).store = s.store := rfl
@[simp] theorem State.setPulse_mixer : (s.setPulse x).mixer = s.mixer := rfl
@[simp] theorem State.setPulse_banks : (s.setPulse x).banks = s.banks := rfl
@[simp] theorem State.setPulse_fades : (s.setPulse x).fades = s.fades := rfl
@[simp] theorem State.setPulse_cues : (s.setPulse x).cues = s.cues := rfl
@[simp] theorem State.setPulse_reports : (s.setPulse x).reports = s.reports := rfl
@[simp] theorem State.setPulse_link : (s.setPulse x).link = s.link := rfl
@[simp] theorem State.setPulse_draw : (s.setPulse x).draw = s.draw := rfl
@[simp] theorem State.setPulse_pending : (s.setPulse x).pending = s.pending := rfl
end

section
variable (s : State) (x : Classifier)
@[simp] theorem State.setClassifier_stamp : (s.setClassifier x).stamp = s.stamp := rfl
@[simp] theorem State.setClassifier_pulse : (s.setClassifier x).pulse = s.pulse := rfl
@[simp] theorem State.setClassifier_classifier : (s.setClassifier x).classifier = x := rfl
@[simp] theorem State.setClassifier_engine : (s.setClassifier x).engine = s.engine := rfl
@[simp] theorem State.setClassifier_timing : (s.setClassifier x).timing = s.timing := rfl
@[simp] theorem State.setClassifier_store : (s.setClassifier x).store = s.store := rfl
@[simp] theorem State.setClassifier_mixer : (s.setClassifier x).mixer = s.mixer := rfl
@[simp] theorem State.setClassifier_banks : (s.setClassifier x).banks = s.banks := rfl
@[simp] theorem State.setClassifier_fades : (s.setClassifier x).fades = s.fades := rfl
@[simp] theorem State.setClassifier_cues : (s.setClassifier x).cues = s.cues := rfl
@[simp] theorem State.setClassifier_reports : (s.setClassifier x).reports = s.reports := rfl
@[simp] theorem State.setClassifier_link : (s.setClassifier x).link = s.link := rfl
@[simp] theorem State.setClassifier_draw : (s.setClassifier x).draw = s.draw := rfl
@[simp] theorem State.setClassifier_pending : (s.setClassifier x).pending = s.pending := rfl
end

section
variable (s : State) (x : Engine)
@[simp] theorem State.setEngine_stamp : (s.setEngine x).stamp = s.stamp := rfl
@[simp] theorem State.setEngine_pulse : (s.setEngine x).pulse = s.pulse := rfl
@[simp] theorem State.setEngine_classifier : (s.setEngine x).classifier = s.classifier := rfl
@[simp] theorem State.setEngine_engine : (s.setEngine x).engine = x := rfl
@[simp] theorem State.setEngine_timing : (s.setEngine x).timing = s.timing := rfl
@[simp] theorem State.setEngine_store : (s.setEngine x).store = s.store := rfl
@[simp] theorem State.setEngine_mixer : (s.setEngine x).mixer = s.mixer := rfl
@[simp] theorem State.setEngine_banks : (s.setEngine x).banks = s.banks := rfl
@[simp] theorem State.setEngine_fades : (s.setEngine x).fades = s.fades := rfl
@[simp] theorem State.setEngine_cues : (s.setEngine x).cues = s.cues := rfl
@[simp] theorem State.setEngine_reports : (s.setEngine x).reports = s.reports := rfl
@[simp] theorem State.setEngine_link : (s.setEngine x).link = s.link := rfl
@[simp] theorem State.setEngine_draw : (s.setEngine x).draw = s.draw := rfl
@[simp] theorem State.setEngine_pending : (s.setEngine x).pending = s.pending := rfl
end

section
variable (s : State) (x : Timing)
@[simp] theorem State.setTiming_stamp : (s.setTiming x).stamp = s.stamp := rfl
@[simp] theorem State.setTiming_pulse : (s.setTiming x).pulse = s.pulse := rfl
@[simp] theorem State.setTiming_classifier : (s.setTiming x).classifier = s.classifier := rfl
@[simp] theorem State.setTiming_engine : (s.setTiming x).engine = s.engine := rfl
@[simp] theorem State.setTiming_timing : (s.setTiming x).timing = x := rfl
@[simp] theorem State.setTiming_store : (s.setTiming x).store = s.store := rfl
@[simp] theorem State.setTiming_mixer : (s.setTiming x).mixer = s.mixer := rfl
@[simp] theorem State.setTiming_banks : (s.setTiming x).banks = s.banks := rfl
@[simp] theorem State.setTiming_fades : (s.setTiming x).fades = s.fades := rfl
@[simp] theorem State.setTiming_cues : (s.setTiming x).cues = s.cues := rfl
@[simp] theorem State.setTiming_reports : (s.setTiming x).reports = s.reports := rfl
@[simp] theorem State.setTiming_link : (s.setTiming x).link = s.link := rfl
@[simp] theorem State.setTiming_draw : (s.setTiming x).draw = s.draw := rfl
@[simp] theorem State.setTiming_pending : (s.setTiming x).pending = s.pending := rfl
end

section
variable (s : State) (x : Store)
@[simp] theorem State.setStore_stamp : (s.setStore x).stamp = s.stamp := rfl
@[simp] theorem State.setStore_pulse : (s.setStore x).pulse = s.pulse := rfl
@[simp] theorem State.setStore_classifier : (s.setStore x).classifier = s.classifier := rfl
@[simp] theorem State.setStore_engine : (s.setStore x).engine = s.engine := rfl
@[simp] theorem State.setStore_timing : (s.setStore x).timing = s.timing := rfl
@[simp] theorem State.setStore_store : (s.setStore x).store = x := rfl
@[simp] theorem State.setStore_mixer : (s.setStore x).mixer = s.mixer := rfl
@[simp] theorem State.setStore_banks : (s.setStore x).banks = s.banks := rfl
@[simp] theorem State.setStore_fades : (s.setStore x).fades = s.fades := rfl
@[simp] theorem State.setStore_cues : (s.setStore x).cues = s.cues := rfl
@[simp] theorem State.setStore_reports : (s.setStore x).reports = s.reports := rfl
@[simp] theorem State.setStore_link : (s.setStore x).link = s.link := rfl
@[simp] theorem State.setStore_draw : (s.setStore x).draw = s.draw := rfl
@[simp] theorem State.setStore_pending : (s.setStore x).pending = s.pending := rfl
end

section
variable (s : State) (x : Mixer)
@[simp] theorem State.setMixer_stamp : (s.setMixer x).stamp = s.stamp := rfl
@[simp] theorem State.setMixer_pulse : (s.setMixer x).pulse = s.pulse := rfl
@[simp] theorem State.setMixer_classifier : (s.setMixer x).classifier = s.classifier := rfl
@[simp] theorem State.setMixer_engine : (s.setMixer x).engine = s.engine := rfl
@[simp] theorem State.setMixer_timing : (s.setMixer x).timing = s.timing := rfl
@[simp] theorem State.setMixer_store : (s.setMixer x).store = s.store := rfl
@[simp] theorem State.setMixer_mixer : (s.setMixer x).mixer = x := rfl
@[simp] theorem State.setMixer_banks : (s.setMixer x).banks = s.banks := rfl
@[simp] theorem State.setMixer_fades : (s.setMixer x).fades = s.fades := rfl
@[simp] theorem State.setMixer_cues : (s.setMixer x).cues = s.cues := rfl
@[simp] theorem State.setMixer_reports : (s.setMixer x).reports = s.reports := rfl
@[simp] theorem State.setMixer_link : (s.setMixer x).link = s.link := rfl
@[simp] theorem State.setMixer_draw : (s.setMixer x).draw = s.draw := rfl
@[simp] theorem State.setMixer_pending : (s.setMixer x).pending = s.pending := rfl
end

section
variable (s : State) (x : Banks)
@[simp] theorem State.setBanks_stamp : (s.setBanks x).stamp = s.stamp := rfl
@[simp] theorem State.setBanks_pulse : (s.setBanks x).pulse = s.pulse := rfl
@[simp] theorem State.setBanks_classifier : (s.setBanks x).classifier = s.classifier := rfl
@[simp] theorem State.setBanks_engine : (s.setBanks x).engine = s.engine := rfl
@[simp] theorem State.setBanks_timing : (s.setBanks x).timing = s.timing := rfl
@[simp] theorem State.setBanks_store : (s.setBanks x).store = s.store := rfl
@[simp] theorem State.setBanks_mixer : (s.setBanks x).mixer = s.mixer := rfl
@[simp] theorem State.setBanks_banks : (s.setBanks x).banks = x := rfl
@[simp] theorem State.setBanks_fades : (s.setBanks x).fades = s.fades := rfl
@[simp] theorem State.setBanks_cues : (s.setBanks x).cues = s.cues := rfl
@[simp] theorem State.setBanks_reports : (s.setBanks x).reports = s.reports := rfl
@[simp] theorem State.setBanks_link : (s.setBanks x).link = s.link := rfl
@[simp] theorem State.setBanks_draw : (s.setBanks x).draw = s.draw := rfl
@[simp] theorem State.setBanks_pending : (s.setBanks x).pending = s.pending := rfl
end

section
variable (s : State) (x : Vector Fade 4)
@[simp] theorem State.setFades_stamp : (s.setFades x).stamp = s.stamp := rfl
@[simp] theorem State.setFades_pulse : (s.setFades x).pulse = s.pulse := rfl
@[simp] theorem State.setFades_classifier : (s.setFades x).classifier = s.classifier := rfl
@[simp] theorem State.setFades_engine : (s.setFades x).engine = s.engine := rfl
@[simp] theorem State.setFades_timing : (s.setFades x).timing = s.timing := rfl
@[simp] theorem State.setFades_store : (s.setFades x).store = s.store := rfl
@[simp] theorem State.setFades_mixer : (s.setFades x).mixer = s.mixer := rfl
@[simp] theorem State.setFades_banks : (s.setFades x).banks = s.banks := rfl
@[simp] theorem State.setFades_fades : (s.setFades x).fades = x := rfl
@[simp] theorem State.setFades_cues : (s.setFades x).cues = s.cues := rfl
@[simp] theorem State.setFades_reports : (s.setFades x).reports = s.reports := rfl
@[simp] theorem State.setFades_link : (s.setFades x).link = s.link := rfl
@[simp] theorem State.setFades_draw : (s.setFades x).draw = s.draw := rfl
@[simp] theorem State.setFades_pending : (s.setFades x).pending = s.pending := rfl
end

section
variable (s : State) (x : CuePool)
@[simp] theorem State.setCues_stamp : (s.setCues x).stamp = s.stamp := rfl
@[simp] theorem State.setCues_pulse : (s.setCues x).pulse = s.pulse := rfl
@[simp] theorem State.setCues_classifier : (s.setCues x).classifier = s.classifier := rfl
@[simp] theorem State.setCues_engine : (s.setCues x).engine = s.engine := rfl
@[simp] theorem State.setCues_timing : (s.setCues x).timing = s.timing := rfl
@[simp] theorem State.setCues_store : (s.setCues x).store = s.store := rfl
@[simp] theorem State.setCues_mixer : (s.setCues x).mixer = s.mixer := rfl
@[simp] theorem State.setCues_banks : (s.setCues x).banks = s.banks := rfl
@[simp] theorem State.setCues_fades : (s.setCues x).fades = s.fades := rfl
@[simp] theorem State.setCues_cues : (s.setCues x).cues = x := rfl
@[simp] theorem State.setCues_reports : (s.setCues x).reports = s.reports := rfl
@[simp] theorem State.setCues_link : (s.setCues x).link = s.link := rfl
@[simp] theorem State.setCues_draw : (s.setCues x).draw = s.draw := rfl
@[simp] theorem State.setCues_pending : (s.setCues x).pending = s.pending := rfl
end

section
variable (s : State) (x : ReportUnit)
@[simp] theorem State.setReports_stamp : (s.setReports x).stamp = s.stamp := rfl
@[simp] theorem State.setReports_pulse : (s.setReports x).pulse = s.pulse := rfl
@[simp] theorem State.setReports_classifier : (s.setReports x).classifier = s.classifier := rfl
@[simp] theorem State.setReports_engine : (s.setReports x).engine = s.engine := rfl
@[simp] theorem State.setReports_timing : (s.setReports x).timing = s.timing := rfl
@[simp] theorem State.setReports_store : (s.setReports x).store = s.store := rfl
@[simp] theorem State.setReports_mixer : (s.setReports x).mixer = s.mixer := rfl
@[simp] theorem State.setReports_banks : (s.setReports x).banks = s.banks := rfl
@[simp] theorem State.setReports_fades : (s.setReports x).fades = s.fades := rfl
@[simp] theorem State.setReports_cues : (s.setReports x).cues = s.cues := rfl
@[simp] theorem State.setReports_reports : (s.setReports x).reports = x := rfl
@[simp] theorem State.setReports_link : (s.setReports x).link = s.link := rfl
@[simp] theorem State.setReports_draw : (s.setReports x).draw = s.draw := rfl
@[simp] theorem State.setReports_pending : (s.setReports x).pending = s.pending := rfl
end

section
variable (s : State) (x : Link)
@[simp] theorem State.setLink_stamp : (s.setLink x).stamp = s.stamp := rfl
@[simp] theorem State.setLink_pulse : (s.setLink x).pulse = s.pulse := rfl
@[simp] theorem State.setLink_classifier : (s.setLink x).classifier = s.classifier := rfl
@[simp] theorem State.setLink_engine : (s.setLink x).engine = s.engine := rfl
@[simp] theorem State.setLink_timing : (s.setLink x).timing = s.timing := rfl
@[simp] theorem State.setLink_store : (s.setLink x).store = s.store := rfl
@[simp] theorem State.setLink_mixer : (s.setLink x).mixer = s.mixer := rfl
@[simp] theorem State.setLink_banks : (s.setLink x).banks = s.banks := rfl
@[simp] theorem State.setLink_fades : (s.setLink x).fades = s.fades := rfl
@[simp] theorem State.setLink_cues : (s.setLink x).cues = s.cues := rfl
@[simp] theorem State.setLink_reports : (s.setLink x).reports = s.reports := rfl
@[simp] theorem State.setLink_link : (s.setLink x).link = x := rfl
@[simp] theorem State.setLink_draw : (s.setLink x).draw = s.draw := rfl
@[simp] theorem State.setLink_pending : (s.setLink x).pending = s.pending := rfl
end

section
variable (s : State) (x : Nat)
@[simp] theorem State.setDraw_stamp : (s.setDraw x).stamp = s.stamp := rfl
@[simp] theorem State.setDraw_pulse : (s.setDraw x).pulse = s.pulse := rfl
@[simp] theorem State.setDraw_classifier : (s.setDraw x).classifier = s.classifier := rfl
@[simp] theorem State.setDraw_engine : (s.setDraw x).engine = s.engine := rfl
@[simp] theorem State.setDraw_timing : (s.setDraw x).timing = s.timing := rfl
@[simp] theorem State.setDraw_store : (s.setDraw x).store = s.store := rfl
@[simp] theorem State.setDraw_mixer : (s.setDraw x).mixer = s.mixer := rfl
@[simp] theorem State.setDraw_banks : (s.setDraw x).banks = s.banks := rfl
@[simp] theorem State.setDraw_fades : (s.setDraw x).fades = s.fades := rfl
@[simp] theorem State.setDraw_cues : (s.setDraw x).cues = s.cues := rfl
@[simp] theorem State.setDraw_reports : (s.setDraw x).reports = s.reports := rfl
@[simp] theorem State.setDraw_link : (s.setDraw x).link = s.link := rfl
@[simp] theorem State.setDraw_draw : (s.setDraw x).draw = x := rfl
@[simp] theorem State.setDraw_pending : (s.setDraw x).pending = s.pending := rfl
end

section
variable (s : State) (x : List Instr)
@[simp] theorem State.setPending_stamp : (s.setPending x).stamp = s.stamp := rfl
@[simp] theorem State.setPending_pulse : (s.setPending x).pulse = s.pulse := rfl
@[simp] theorem State.setPending_classifier : (s.setPending x).classifier = s.classifier := rfl
@[simp] theorem State.setPending_engine : (s.setPending x).engine = s.engine := rfl
@[simp] theorem State.setPending_timing : (s.setPending x).timing = s.timing := rfl
@[simp] theorem State.setPending_store : (s.setPending x).store = s.store := rfl
@[simp] theorem State.setPending_mixer : (s.setPending x).mixer = s.mixer := rfl
@[simp] theorem State.setPending_banks : (s.setPending x).banks = s.banks := rfl
@[simp] theorem State.setPending_fades : (s.setPending x).fades = s.fades := rfl
@[simp] theorem State.setPending_cues : (s.setPending x).cues = s.cues := rfl
@[simp] theorem State.setPending_reports : (s.setPending x).reports = s.reports := rfl
@[simp] theorem State.setPending_link : (s.setPending x).link = s.link := rfl
@[simp] theorem State.setPending_draw : (s.setPending x).draw = s.draw := rfl
@[simp] theorem State.setPending_pending : (s.setPending x).pending = x := rfl
end

end Sys2Proof.Machine
end

