-- ==== Sys2Proof/Laws/Cues.lean ====
section
/-! SUPPORT. The lists of the cue pool under a move, and what the walk leaves in every unit. -/

namespace Sys2Proof.Machine

/-! ## Lists -/

@[simp] theorem CuePool.on_setOn_self (p : CuePool) (l : CueList) (ids : List (Fin 64)) : (p.setOn l ids).on l = ids := by
  cases l <;> rfl

theorem CuePool.on_setOn_ne (p : CuePool) {l m : CueList} (h : m ≠ l) (ids : List (Fin 64)) : (p.setOn l ids).on m = p.on m := by
  cases l <;> cases m <;> first | rfl | exact absurd rfl h

@[simp] theorem CuePool.records_setOn (p : CuePool) (l : CueList) (ids : List (Fin 64)) : (p.setOn l ids).records = p.records := by
  cases l <;> rfl

@[simp] theorem CuePool.records_remove (p : CuePool) (i : Fin 64) : (p.remove i).records = p.records :=
  p.records_setOn _ _

/-- A move changes no record. -/
@[simp] theorem CuePool.records_move (p : CuePool) (i : Fin 64) (l : CueList) (at' : Place) :
    (p.move i l at').records = p.records := by
  rw [CuePool.move, CuePool.records_setOn, CuePool.records_remove]

@[simp] theorem CuePool.on_setRecord (p : CuePool) (i : Fin 64) (c : Cue) (l : CueList) : (p.setRecord i c).on l = p.on l := by
  cases l <;> rfl

@[simp] theorem CuePool.listOf_setRecord (p : CuePool) (i j : Fin 64) (c : Cue) : (p.setRecord i c).listOf j = p.listOf j := rfl

/-! ## Where a cue stands (R124) -/

/-- Every index is on some list. -/
theorem CuePool.mem_some (p : CuePool) (h : p.ok) (i : Fin 64) : i ∈ p.free ∨ i ∈ p.armed ∨ i ∈ p.held ∨ i ∈ p.done := by
  have := h.1.mem_iff.mpr (List.mem_finRange i)
  simpa only [List.mem_append, or_assoc] using this

/-- No index is on two lists, nor twice on one. -/
theorem CuePool.nodup (p : CuePool) (h : p.ok) : (p.free ++ p.armed ++ p.held ++ p.done).Nodup :=
  h.1.nodup_iff.mpr (List.nodup_finRange 64)

theorem CuePool.on_nodup (p : CuePool) (h : p.ok) (l : CueList) : (p.on l).Nodup := by
  have n := p.nodup h
  simp only [List.nodup_append] at n
  cases l
  · exact n.1.1.1
  · exact n.1.1.2.1
  · exact n.1.2.1
  · exact n.2.1

/-- A cue stands on the one list that holds it. -/
theorem CuePool.listOf_iff (p : CuePool) (h : p.ok) (i : Fin 64) (l : CueList) : p.listOf i = l ↔ i ∈ p.on l := by
  have n := p.nodup h
  simp only [List.nodup_append, List.mem_append] at n
  obtain ⟨⟨⟨-, -, fa⟩, -, xh⟩, -, xd⟩ := n
  have m := p.mem_some h i
  have fa' : i ∈ p.free → i ∈ p.armed → False := fun a b => fa i a i b rfl
  have fh : i ∈ p.free → i ∈ p.held → False := fun a b => xh i (Or.inl a) i b rfl
  have ah : i ∈ p.armed → i ∈ p.held → False := fun a b => xh i (Or.inr a) i b rfl
  have fd : i ∈ p.free → i ∈ p.done → False := fun a b => xd i (Or.inl (Or.inl a)) i b rfl
  have ad : i ∈ p.armed → i ∈ p.done → False := fun a b => xd i (Or.inl (Or.inr a)) i b rfl
  have hd : i ∈ p.held → i ∈ p.done → False := fun a b => xd i (Or.inr a) i b rfl
  unfold CuePool.listOf
  simp only [List.contains_iff_mem]
  cases l <;> simp only [CuePool.on] <;> split_ifs <;> simp_all

/-- A removal takes the cue off its list and leaves the other lists. -/
theorem CuePool.on_remove (p : CuePool) (h : p.ok) (i : Fin 64) (l : CueList) : (p.remove i).on l = (p.on l).erase i := by
  unfold CuePool.remove
  by_cases hl : p.listOf i = l
  · subst hl
    rw [CuePool.on_setOn_self]
  · rw [CuePool.on_setOn_ne _ (Ne.symm hl), List.erase_of_not_mem (fun hm => hl ((p.listOf_iff h i l).mpr hm))]

/-- A move (R125): the target list gains the cue at its place, and every list keeps the order of the others. -/
theorem CuePool.on_move_self (p : CuePool) (h : p.ok) (i : Fin 64) (l : CueList) (at' : Place) :
    (p.move i l at').on l = insertAt i at' ((p.on l).erase i) := by
  rw [CuePool.move, CuePool.on_setOn_self, p.on_remove h]

theorem CuePool.on_move_ne (p : CuePool) (h : p.ok) (i : Fin 64) {l m : CueList} (hm : m ≠ l) (at' : Place) :
    (p.move i l at').on m = (p.on m).erase i := by
  rw [CuePool.move, CuePool.on_setOn_ne _ hm, p.on_remove h]

/-- An insertion before a cue of the order. -/
theorem insertBefore_append (i j : Fin 64) (before after : List (Fin 64)) (h : j ∉ before) :
    insertBefore i j (before ++ j :: after) = before ++ i :: j :: after := by
  induction before with
  | nil => simp [insertBefore]
  | cons b bs ih =>
    have hb : b ≠ j := fun e => h (e ▸ List.mem_cons_self)
    rw [List.cons_append, insertBefore, if_neg hb, ih (fun m => h (List.mem_cons_of_mem _ m))]
    rfl

/-- An insertion adds the cue and nothing else. -/
theorem insertAt_perm (i : Fin 64) (at' : Place) (ids : List (Fin 64)) : (insertAt i at' ids).Perm (i :: ids) := by
  cases at' with
  | head => exact List.Perm.refl _
  | tail => exact List.perm_append_singleton i ids
  | before j =>
    show (insertBefore i j ids).Perm (i :: ids)
    induction ids with
    | nil => exact List.Perm.refl _
    | cons x xs ih =>
      unfold insertBefore
      split
      · exact List.Perm.refl _
      · exact (ih.cons x).trans (List.Perm.swap i x xs)

/-! ## The walk (R138 to R148) -/

/-- What the walk leaves in the units it does not reach: all but the banks' pending swap, the generators, the pending keyer
state and the cues. -/
def walkFrame (s t : State) : Prop :=
  (t.stamp = s.stamp ∧ t.pulse = s.pulse ∧ t.classifier = s.classifier ∧ t.engine = s.engine ∧ t.timing = s.timing ∧
    t.store = s.store ∧ t.reports = s.reports ∧ t.link = s.link ∧ t.draw = s.draw ∧ t.pending = s.pending) ∧
  t.banks = { s.banks with swap := t.banks.swap } ∧ t.mixer = { s.mixer with keyerNext := t.mixer.keyerNext }

theorem walkFrame_refl (s : State) : walkFrame s s := ⟨⟨rfl, rfl, rfl, rfl, rfl, rfl, rfl, rfl, rfl, rfl⟩, rfl, rfl⟩

theorem walkFrame_trans {s t u : State} (h₁ : walkFrame s t) (h₂ : walkFrame t u) : walkFrame s u := by
  obtain ⟨⟨a1, a2, a3, a4, a5, a6, a7, a8, a9, a10⟩, ab, am⟩ := h₁
  obtain ⟨⟨b1, b2, b3, b4, b5, b6, b7, b8, b9, b10⟩, bb, bm⟩ := h₂
  refine ⟨⟨b1.trans a1, b2.trans a2, b3.trans a3, b4.trans a4, b5.trans a5, b6.trans a6, b7.trans a7, b8.trans a8,
    b9.trans a9, b10.trans a10⟩, ?_, ?_⟩
  · rw [ab] at bb
    exact bb
  · rw [am] at bm
    exact bm

theorem State.act_frame (s : State) (i : Fin 64) (a : CueAction) : walkFrame s (s.act i a).1 := by
  cases a with
  | swap copy =>
    show walkFrame s (s.actSwap i copy).1
    unfold State.actSwap Banks.writeSwap
    cases hs : s.banks.swap <;> exact ⟨⟨rfl, rfl, rfl, rfl, rfl, rfl, rfl, rfl, rfl, rfl⟩, rfl, rfl⟩
  | fade g p => exact ⟨⟨rfl, rfl, rfl, rfl, rfl, rfl, rfl, rfl, rfl, rfl⟩, rfl, rfl⟩
  | fadeHold g => exact ⟨⟨rfl, rfl, rfl, rfl, rfl, rfl, rfl, rfl, rfl, rfl⟩, rfl, rfl⟩
  | keyer v => exact ⟨⟨rfl, rfl, rfl, rfl, rfl, rfl, rfl, rfl, rfl, rfl⟩, rfl, rfl⟩
  | arm j =>
    show walkFrame s (s.actArm i j).1
    unfold State.actArm
    split <;> exact ⟨⟨rfl, rfl, rfl, rfl, rfl, rfl, rfl, rfl, rfl, rfl⟩, rfl, rfl⟩
  | mark => exact ⟨⟨rfl, rfl, rfl, rfl, rfl, rfl, rfl, rfl, rfl, rfl⟩, rfl, rfl⟩

theorem State.fire_frame (s : State) (i : Fin 64) : walkFrame s (s.fire i).1 :=
  walkFrame_trans (s.act_frame i (s.cues.records[i]).content.action) ⟨⟨rfl, rfl, rfl, rfl, rfl, rfl, rfl, rfl, rfl, rfl⟩, rfl, rfl⟩

theorem State.visit_frame (f : Count) (a : State × List Post) (i : Fin 64) : walkFrame a.1 (State.visit f a i).1 := by
  unfold State.visit
  split
  · exact a.1.fire_frame i
  · exact walkFrame_refl _

theorem State.foldl_visit_frame (f : Count) (ids : List (Fin 64)) (a : State × List Post) :
    walkFrame a.1 (ids.foldl (State.visit f) a).1 := by
  induction ids generalizing a with
  | nil => exact walkFrame_refl _
  | cons i ids ih => exact walkFrame_trans (State.visit_frame f a i) (ih _)

/-- The walk changes the pending swap, the generators, the pending keyer state and the cues, and nothing else. -/
theorem State.walk_frame (s : State) (f : Count) : walkFrame s (s.walk f).1 := State.foldl_visit_frame f _ _

section
variable (s : State) (f : Count)
@[simp] theorem State.walk_stamp : (s.walk f).1.stamp = s.stamp :=
  (s.walk_frame f).1.1
@[simp] theorem State.walk_pulse : (s.walk f).1.pulse = s.pulse :=
  (s.walk_frame f).1.2.1
@[simp] theorem State.walk_classifier : (s.walk f).1.classifier = s.classifier :=
  (s.walk_frame f).1.2.2.1
@[simp] theorem State.walk_engine : (s.walk f).1.engine = s.engine :=
  (s.walk_frame f).1.2.2.2.1
@[simp] theorem State.walk_timing : (s.walk f).1.timing = s.timing :=
  (s.walk_frame f).1.2.2.2.2.1
@[simp] theorem State.walk_store : (s.walk f).1.store = s.store :=
  (s.walk_frame f).1.2.2.2.2.2.1
@[simp] theorem State.walk_reports : (s.walk f).1.reports = s.reports :=
  (s.walk_frame f).1.2.2.2.2.2.2.1
@[simp] theorem State.walk_link : (s.walk f).1.link = s.link :=
  (s.walk_frame f).1.2.2.2.2.2.2.2.1
@[simp] theorem State.walk_draw : (s.walk f).1.draw = s.draw :=
  (s.walk_frame f).1.2.2.2.2.2.2.2.2.1
@[simp] theorem State.walk_pending : (s.walk f).1.pending = s.pending :=
  (s.walk_frame f).1.2.2.2.2.2.2.2.2.2
theorem State.walk_banks : (s.walk f).1.banks = { s.banks with swap := (s.walk f).1.banks.swap } :=
  (s.walk_frame f).2.1
theorem State.walk_mixer : (s.walk f).1.mixer = { s.mixer with keyerNext := (s.walk f).1.mixer.keyerNext } :=
  (s.walk_frame f).2.2
end

end Sys2Proof.Machine
end

