-- ==== Sys2Proof/Laws/Reports.lean ====
section
/-! SUPPORT. Posting, latching and judging: what they change, and what they leave. -/

namespace Sys2Proof.Machine

/-! ## A post, a latch and the judgement touch the report unit alone -/

section
variable (s : State) (p : Post)
@[simp] theorem State.post_stamp : (s.post p).stamp = s.stamp := rfl
@[simp] theorem State.post_pulse : (s.post p).pulse = s.pulse := rfl
@[simp] theorem State.post_classifier : (s.post p).classifier = s.classifier := rfl
@[simp] theorem State.post_engine : (s.post p).engine = s.engine := rfl
@[simp] theorem State.post_timing : (s.post p).timing = s.timing := rfl
@[simp] theorem State.post_store : (s.post p).store = s.store := rfl
@[simp] theorem State.post_mixer : (s.post p).mixer = s.mixer := rfl
@[simp] theorem State.post_banks : (s.post p).banks = s.banks := rfl
@[simp] theorem State.post_fades : (s.post p).fades = s.fades := rfl
@[simp] theorem State.post_cues : (s.post p).cues = s.cues := rfl
@[simp] theorem State.post_link : (s.post p).link = s.link := rfl
@[simp] theorem State.post_draw : (s.post p).draw = s.draw := rfl
@[simp] theorem State.post_pending : (s.post p).pending = s.pending := rfl
end

section
variable (s : State) (n : Nat)
@[simp] theorem State.latch_stamp : (s.latch n).stamp = s.stamp := rfl
@[simp] theorem State.latch_pulse : (s.latch n).pulse = s.pulse := rfl
@[simp] theorem State.latch_classifier : (s.latch n).classifier = s.classifier := rfl
@[simp] theorem State.latch_engine : (s.latch n).engine = s.engine := rfl
@[simp] theorem State.latch_timing : (s.latch n).timing = s.timing := rfl
@[simp] theorem State.latch_store : (s.latch n).store = s.store := rfl
@[simp] theorem State.latch_mixer : (s.latch n).mixer = s.mixer := rfl
@[simp] theorem State.latch_banks : (s.latch n).banks = s.banks := rfl
@[simp] theorem State.latch_fades : (s.latch n).fades = s.fades := rfl
@[simp] theorem State.latch_cues : (s.latch n).cues = s.cues := rfl
@[simp] theorem State.latch_link : (s.latch n).link = s.link := rfl
@[simp] theorem State.latch_draw : (s.latch n).draw = s.draw := rfl
@[simp] theorem State.latch_pending : (s.latch n).pending = s.pending := rfl
end

section
variable (s : State)
@[simp] theorem State.settle_stamp : s.settle.stamp = s.stamp := rfl
@[simp] theorem State.settle_pulse : s.settle.pulse = s.pulse := rfl
@[simp] theorem State.settle_classifier : s.settle.classifier = s.classifier := rfl
@[simp] theorem State.settle_engine : s.settle.engine = s.engine := rfl
@[simp] theorem State.settle_timing : s.settle.timing = s.timing := rfl
@[simp] theorem State.settle_store : s.settle.store = s.store := rfl
@[simp] theorem State.settle_mixer : s.settle.mixer = s.mixer := rfl
@[simp] theorem State.settle_banks : s.settle.banks = s.banks := rfl
@[simp] theorem State.settle_fades : s.settle.fades = s.fades := rfl
@[simp] theorem State.settle_cues : s.settle.cues = s.cues := rfl
@[simp] theorem State.settle_link : s.settle.link = s.link := rfl
@[simp] theorem State.settle_draw : s.settle.draw = s.draw := rfl
@[simp] theorem State.settle_pending : s.settle.pending = s.pending := rfl
end

/-- Posting several reports changes the report unit alone. -/
theorem State.postAll_eq (s : State) (ps : List Post) : s.postAll ps = s.setReports (s.postAll ps).reports := by
  unfold State.postAll
  induction ps generalizing s with
  | nil => rfl
  | cons p ps ih => exact ih (s.post p)

section
variable (s : State) (ps : List Post)
@[simp] theorem State.postAll_stamp : (s.postAll ps).stamp = s.stamp := (congrArg State.stamp (s.postAll_eq ps)).trans rfl
@[simp] theorem State.postAll_pulse : (s.postAll ps).pulse = s.pulse := (congrArg State.pulse (s.postAll_eq ps)).trans rfl
@[simp] theorem State.postAll_classifier : (s.postAll ps).classifier = s.classifier := (congrArg State.classifier (s.postAll_eq ps)).trans rfl
@[simp] theorem State.postAll_engine : (s.postAll ps).engine = s.engine := (congrArg State.engine (s.postAll_eq ps)).trans rfl
@[simp] theorem State.postAll_timing : (s.postAll ps).timing = s.timing := (congrArg State.timing (s.postAll_eq ps)).trans rfl
@[simp] theorem State.postAll_store : (s.postAll ps).store = s.store := (congrArg State.store (s.postAll_eq ps)).trans rfl
@[simp] theorem State.postAll_mixer : (s.postAll ps).mixer = s.mixer := (congrArg State.mixer (s.postAll_eq ps)).trans rfl
@[simp] theorem State.postAll_banks : (s.postAll ps).banks = s.banks := (congrArg State.banks (s.postAll_eq ps)).trans rfl
@[simp] theorem State.postAll_fades : (s.postAll ps).fades = s.fades := (congrArg State.fades (s.postAll_eq ps)).trans rfl
@[simp] theorem State.postAll_cues : (s.postAll ps).cues = s.cues := (congrArg State.cues (s.postAll_eq ps)).trans rfl
@[simp] theorem State.postAll_link : (s.postAll ps).link = s.link := (congrArg State.link (s.postAll_eq ps)).trans rfl
@[simp] theorem State.postAll_draw : (s.postAll ps).draw = s.draw := (congrArg State.draw (s.postAll_eq ps)).trans rfl
@[simp] theorem State.postAll_pending : (s.postAll ps).pending = s.pending := (congrArg State.pending (s.postAll_eq ps)).trans rfl
@[simp] theorem State.postAll_nil : s.postAll [] = s := rfl
end

/-- Posting the reports of several pieces of work, in the order of a list. -/
theorem State.foldl_postAll_eq (s : State) (ws : List (Work × List Post)) :
    ws.foldl (fun t w => t.postAll w.2) s = s.setReports (ws.foldl (fun t w => t.postAll w.2) s).reports := by
  induction ws generalizing s with
  | nil => rfl
  | cons w ws ih =>
    rw [List.foldl_cons, ih, s.postAll_eq w.2]
    rfl

/-- Posting the reports of several pieces of work changes the report unit and the draw counter alone. -/
theorem State.postWork_eq (s : State) (ahead : Option Work) (ws : List (Work × List Post)) :
    s.postWork ahead ws = (s.setReports (s.postWork ahead ws).reports).setDraw (s.draw + 1) := by
  unfold State.postWork
  rw [s.foldl_postAll_eq]
  rfl

section
variable (s : State) (ahead : Option Work) (ws : List (Work × List Post))
@[simp] theorem State.postWork_stamp : (s.postWork ahead ws).stamp = s.stamp := (congrArg State.stamp (s.postWork_eq ahead ws)).trans rfl
@[simp] theorem State.postWork_pulse : (s.postWork ahead ws).pulse = s.pulse := (congrArg State.pulse (s.postWork_eq ahead ws)).trans rfl
@[simp] theorem State.postWork_classifier : (s.postWork ahead ws).classifier = s.classifier := (congrArg State.classifier (s.postWork_eq ahead ws)).trans rfl
@[simp] theorem State.postWork_engine : (s.postWork ahead ws).engine = s.engine := (congrArg State.engine (s.postWork_eq ahead ws)).trans rfl
@[simp] theorem State.postWork_timing : (s.postWork ahead ws).timing = s.timing := (congrArg State.timing (s.postWork_eq ahead ws)).trans rfl
@[simp] theorem State.postWork_store : (s.postWork ahead ws).store = s.store := (congrArg State.store (s.postWork_eq ahead ws)).trans rfl
@[simp] theorem State.postWork_mixer : (s.postWork ahead ws).mixer = s.mixer := (congrArg State.mixer (s.postWork_eq ahead ws)).trans rfl
@[simp] theorem State.postWork_banks : (s.postWork ahead ws).banks = s.banks := (congrArg State.banks (s.postWork_eq ahead ws)).trans rfl
@[simp] theorem State.postWork_fades : (s.postWork ahead ws).fades = s.fades := (congrArg State.fades (s.postWork_eq ahead ws)).trans rfl
@[simp] theorem State.postWork_cues : (s.postWork ahead ws).cues = s.cues := (congrArg State.cues (s.postWork_eq ahead ws)).trans rfl
@[simp] theorem State.postWork_link : (s.postWork ahead ws).link = s.link := (congrArg State.link (s.postWork_eq ahead ws)).trans rfl
@[simp] theorem State.postWork_draw : (s.postWork ahead ws).draw = s.draw + 1 := rfl
@[simp] theorem State.postWork_pending : (s.postWork ahead ws).pending = s.pending := (congrArg State.pending (s.postWork_eq ahead ws)).trans rfl
end

/-! ## Queues (R155) -/

/-- A report that finds room joins the tail, and nothing else changes. -/
theorem ReportUnit.join_room (r : ReportUnit) (q : Fin 4) (rep : Report) (h : (r.queues[q]).length < queueRoom) :
    r.join q rep = { r with queues := r.queues.set q (r.queues[q] ++ [rep]) } := if_pos h

/-- A report that finds its queue full is discarded, and OVERRUNq is latched. -/
theorem ReportUnit.join_full (r : ReportUnit) (q : Fin 4) (rep : Report) (h : ¬(r.queues[q]).length < queueRoom) :
    r.join q rep = r.latch (condOverrun q) := if_neg h

/-- A join keeps the queues' bound. -/
theorem ReportUnit.join_bound (r : ReportUnit) (q : Fin 4) (rep : Report) (h : ∀ k : Fin 4, (r.queues[k]).length ≤ queueRoom)
    (k : Fin 4) : ((r.join q rep).queues[k]).length ≤ queueRoom := by
  by_cases hq : (r.queues[q]).length < queueRoom
  · rw [r.join_room q rep hq]
    by_cases hk : q = k
    · subst hk
      simp only [Fin.getElem_fin, Vector.getElem_set_self, List.length_append, List.length_singleton]
      exact hq
    · have hv : (q : Nat) ≠ k := fun e => hk (Fin.ext e)
      simp only [Fin.getElem_fin, Vector.getElem_set_ne _ _ hv]
      exact h k
  · rw [r.join_full q rep hq]
    exact h k

/-- Several posts that find room in a queue: the queue's own join its tail in order. -/
theorem State.postAll_queue (s : State) (ps : List Post) (q : Fin 4)
    (h : (s.reports.queues[q]).length + (ps.filter fun p => p.queue = q).length ≤ queueRoom) :
    (s.postAll ps).reports.queues[q] =
      s.reports.queues[q] ++ (ps.filter fun p => p.queue = q).map fun p => ⟨p.kind, s.timing.count, p.argA, p.argB⟩ := by
  induction ps generalizing s with
  | nil => exact (List.append_nil _).symm
  | cons p ps ih =>
    show ((s.post p).postAll ps).reports.queues[q] = _
    by_cases hp : p.queue = q
    · subst hp
      rw [List.filter_cons_of_pos (by simp)] at h ⊢
      rw [List.length_cons] at h
      have hr : (s.reports.queues[p.queue]).length < queueRoom := by omega
      have hq : (s.post p).reports.queues[p.queue] = s.reports.queues[p.queue] ++ [⟨p.kind, s.timing.count, p.argA, p.argB⟩] := by
        show (s.reports.join _ _).queues[p.queue] = _
        rw [ReportUnit.join_room _ _ _ hr]
        simp only [Fin.getElem_fin, Vector.getElem_set_self]
      rw [ih (s.post p) (by rw [hq, List.length_append, List.length_singleton]; omega), hq]
      simp
    · rw [List.filter_cons_of_neg (by simpa using hp)] at h ⊢
      have hq : (s.post p).reports.queues[q] = s.reports.queues[q] := by
        show (s.reports.join _ _).queues[q] = _
        have hv : (p.queue : Nat) ≠ q := fun e => hp (Fin.ext e)
        by_cases hr : (s.reports.queues[p.queue]).length < queueRoom
        · rw [ReportUnit.join_room _ _ _ hr]
          simp only [Fin.getElem_fin, Vector.getElem_set_ne _ _ hv]
        · rw [ReportUnit.join_full _ _ _ hr]
          rfl
      rw [ih (s.post p) (by rw [hq]; exact h), hq]
      rfl

/-- Placing a piece of work keeps the others. -/
theorem insertWork_perm (draw : Nat) (ahead : Option Work) (x : Work × List Post) (ws : List (Work × List Post)) :
    (insertWork draw ahead x ws).Perm (x :: ws) := by
  induction ws with
  | nil => exact List.Perm.refl _
  | cons y ys ih =>
    unfold insertWork
    split
    · exact List.Perm.refl _
    · exact (ih.cons y).trans (List.Perm.swap x y ys)

/-- Arranging the pieces of work loses and adds none that posts anything. -/
theorem arrangeWork_perm (draw : Nat) (ahead : Option Work) (ws : List (Work × List Post)) :
    (arrangeWork draw ahead ws).Perm (ws.filter fun w => !w.2.isEmpty) := by
  unfold arrangeWork
  induction ws.filter (fun w => !w.2.isEmpty) with
  | nil => exact List.Perm.refl _
  | cons w ws ih => exact (insertWork_perm draw ahead w _).trans (ih.cons w)

/-- The order of the other pieces of work is kept when one is placed. -/
theorem insertWork_sublist (draw : Nat) (ahead : Option Work) (x : Work × List Post) (ws : List (Work × List Post)) :
    ws.Sublist (insertWork draw ahead x ws) := by
  induction ws with
  | nil => exact List.nil_sublist _
  | cons y ys ih =>
    unfold insertWork
    split
    · exact List.sublist_cons_self x (y :: ys)
    · exact ih.cons_cons y

/-- A piece of work that may post before every other is placed first. -/
theorem insertWork_first (draw : Nat) (ahead : Option Work) (x : Work × List Post) (ws : List (Work × List Post))
    (h : ∀ w ∈ ws, workBefore draw ahead x.1 w.1 = true) : insertWork draw ahead x ws = x :: ws := by
  cases ws with
  | nil => rfl
  | cons y ys => exact if_pos (h y List.mem_cons_self)

/-- What the rules settle the turns follow: `ahead` being none or a work other than the walk and the generators. -/
theorem settledBefore_turn (draw : Nat) {ahead : Option Work} (hw : ahead ≠ some .walk) (hf : ∀ g, ahead ≠ some (.fade g))
    {a b : Work} (h : settledBefore ahead a b = true) : workTurn draw ahead a < workTurn draw ahead b := by
  have key : ∀ c, ahead = some c → workTurn draw ahead c < walkTurn draw ahead := by
    intro c hc
    subst hc
    cases c with
    | walk => exact absurd rfl hw
    | fade g => exact absurd rfl (hf g)
    | _ => simp only [workTurn, walkTurn]; omega
  cases b with
  | walk =>
    cases a <;> first | exact absurd (of_decide_eq_true h) (by first | exact hw | exact hf _) | exact key _ (of_decide_eq_true h)
  | fade g =>
    have hg : walkTurn draw ahead < workTurn draw ahead (.fade g) := by simp only [workTurn]; omega
    cases a with
    | walk => exact hg
    | _ => exact Nat.lt_trans (key _ (of_decide_eq_true h)) hg
  | _ => cases a <;> exact absurd h Bool.false_ne_true

/-- One piece of work posts before another exactly when its turn is not the later. -/
theorem workBefore_iff (draw : Nat) {ahead : Option Work} (hw : ahead ≠ some .walk) (hf : ∀ g, ahead ≠ some (.fade g))
    (a b : Work) : workBefore draw ahead a b = true ↔ workTurn draw ahead a ≤ workTurn draw ahead b := by
  unfold workBefore
  cases hab : settledBefore ahead a b with
  | true => exact ⟨fun _ => Nat.le_of_lt (settledBefore_turn draw hw hf hab), fun _ => rfl⟩
  | false =>
    cases hba : settledBefore ahead b a with
    | true =>
      have := settledBefore_turn draw hw hf hba
      simp only [Bool.not_true, Bool.false_and, Bool.or_self, Bool.false_eq_true, false_iff]
      omega
    | false => simp

/-- A piece of work placed among others in the order of their turns leaves them so. -/
theorem insertWork_sorted (draw : Nat) {ahead : Option Work} (hw : ahead ≠ some .walk) (hf : ∀ g, ahead ≠ some (.fade g))
    (x : Work × List Post) (ws : List (Work × List Post))
    (h : ws.Pairwise fun a b => workTurn draw ahead a.1 ≤ workTurn draw ahead b.1) :
    (insertWork draw ahead x ws).Pairwise fun a b => workTurn draw ahead a.1 ≤ workTurn draw ahead b.1 := by
  induction ws with
  | nil => exact List.pairwise_singleton _ _
  | cons y ys ih =>
    obtain ⟨hy, hys⟩ := List.pairwise_cons.1 h
    unfold insertWork
    split
    · rename_i hxy
      have hle := (workBefore_iff draw hw hf x.1 y.1).1 hxy
      refine List.pairwise_cons.2 ⟨fun z hz => ?_, h⟩
      rcases List.mem_cons.1 hz with rfl | hz
      · exact hle
      · exact Nat.le_trans hle (hy z hz)
    · rename_i hxy
      have hle : workTurn draw ahead y.1 ≤ workTurn draw ahead x.1 :=
        Nat.le_of_not_le fun hn => hxy ((workBefore_iff draw hw hf x.1 y.1).2 hn)
      refine List.pairwise_cons.2 ⟨fun z hz => ?_, ih hys⟩
      rcases List.mem_cons.1 ((insertWork_perm draw ahead x ys).mem_iff.1 hz) with rfl | hz
      · exact hle
      · exact hy z hz

/-- The pieces of work stand in the order of their turns (R150, R155). -/
theorem arrangeWork_sorted (draw : Nat) {ahead : Option Work} (hw : ahead ≠ some .walk) (hf : ∀ g, ahead ≠ some (.fade g))
    (ws : List (Work × List Post)) :
    (arrangeWork draw ahead ws).Pairwise fun a b => workTurn draw ahead a.1 ≤ workTurn draw ahead b.1 := by
  unfold arrangeWork
  induction ws.filter (fun w => !w.2.isEmpty) with
  | nil => exact List.Pairwise.nil
  | cons w ws ih => exact insertWork_sorted draw hw hf w _ ih

/-! ## Conditions and ATTN (R160, R161, R165) -/

theorem ReportUnit.latch_queues (r : ReportUnit) (n : Nat) : (r.latch n).queues = r.queues := rfl
theorem ReportUnit.latch_latched (r : ReportUnit) (n : Nat) : (r.latch n).latched = r.latched ||| condBit n := rfl
theorem State.settle_queues (s : State) : s.settle.reports.queues = s.reports.queues := rfl
theorem State.settle_latched (s : State) : s.settle.reports.latched = s.reports.latched ||| s.causes := rfl
theorem State.settle_causes (s : State) : s.settle.causes = s.causes := rfl

/-- After the judgement ATTN is exact. -/
theorem State.settle_attn (s : State) : s.settle.reports.attn = s.settle.reports.calls := rfl

/-- An event that finds conditions and ATTN as the judgement would leave them is not changed by it. -/
theorem State.settle_of_judged (s : State) (hl : s.reports.latched ||| s.causes = s.reports.latched)
    (ha : s.reports.attn = s.reports.calls) : s.settle = s := by
  unfold State.settle
  rw [hl]
  show s.setReports { s.reports with latched := s.reports.latched, attn := s.reports.calls } = s
  rw [← ha]
  rfl

/-- A second judgement changes nothing. -/
theorem State.settle_settle (s : State) : s.settle.settle = s.settle := by
  refine s.settle.settle_of_judged ?_ s.settle_attn
  rw [State.settle_latched, State.settle_causes, BitVec.or_assoc, BitVec.or_self]

end Sys2Proof.Machine
end

