-- ==== Sys2Proof/Laws/Engine.lean ====
section
/-! SUPPORT. The change of lock state, the loop update and the measurement: what each leaves in every unit. -/

namespace Sys2Proof.Machine

/-! ## A change of lock state (R49) -/

section
variable (s : State) (new : LockState) (k : Bool) (e : Engine)

theorem State.changeLock_engine : (s.changeLock new k e).1.engine =
    { e with lock := new, unlocked := new.isUnlocked, atLimit := s.engine.atLimit && !k } := by
  unfold State.changeLock
  dsimp only
  split <;> rfl

theorem State.changeLock_timing : (s.changeLock new k e).1.timing =
    if new.cancelsJam then { s.timing with jam := none } else s.timing := by
  unfold State.changeLock
  dsimp only
  split <;> rfl

theorem State.changeLock_posts : (s.changeLock new k e).2 =
    (if new = s.engine.lock then [] else [lockPost .stateChange new.code s.engine.lock.code]) ++
      (if k && s.engine.atLimit then [lockPost .atLimitLeave 0 0] else []) := rfl

@[simp] theorem State.changeLock_store : (s.changeLock new k e).1.store = s.store.handed new := by
  unfold State.changeLock
  dsimp only
  split <;> rfl
@[simp] theorem State.changeLock_mixer : (s.changeLock new k e).1.mixer = { s.mixer with recorded := new } := by
  unfold State.changeLock
  dsimp only
  split <;> rfl

/-- A change of lock state touches the engine, the timing, the store and the mixer alone. -/
theorem State.changeLock_eq : (s.changeLock new k e).1 =
    (((s.setEngine (s.changeLock new k e).1.engine).setTiming (s.changeLock new k e).1.timing).setStore
      (s.store.handed new)).setMixer { s.mixer with recorded := new } := by
  rw [State.changeLock_engine, State.changeLock_timing]
  unfold State.changeLock
  dsimp only
  split <;> rfl

@[simp] theorem State.changeLock_stamp : (s.changeLock new k e).1.stamp = s.stamp := by rw [State.changeLock_eq]; rfl
@[simp] theorem State.changeLock_pulse : (s.changeLock new k e).1.pulse = s.pulse := by rw [State.changeLock_eq]; rfl
@[simp] theorem State.changeLock_classifier : (s.changeLock new k e).1.classifier = s.classifier := by
  rw [State.changeLock_eq]; rfl
@[simp] theorem State.changeLock_banks : (s.changeLock new k e).1.banks = s.banks := by rw [State.changeLock_eq]; rfl
@[simp] theorem State.changeLock_fades : (s.changeLock new k e).1.fades = s.fades := by rw [State.changeLock_eq]; rfl
@[simp] theorem State.changeLock_cues : (s.changeLock new k e).1.cues = s.cues := by rw [State.changeLock_eq]; rfl
@[simp] theorem State.changeLock_reports : (s.changeLock new k e).1.reports = s.reports := by rw [State.changeLock_eq]; rfl
@[simp] theorem State.changeLock_link : (s.changeLock new k e).1.link = s.link := by rw [State.changeLock_eq]; rfl
@[simp] theorem State.changeLock_draw : (s.changeLock new k e).1.draw = s.draw := by rw [State.changeLock_eq]; rfl
@[simp] theorem State.changeLock_pending : (s.changeLock new k e).1.pending = s.pending := by rw [State.changeLock_eq]; rfl
end

/-! ## The loop (R26 to R33) -/

/-- A step line start changes S alone. -/
theorem Engine.takeStep_eq (e : Engine) (st : Option Int) : e.takeStep st = { e with s := (e.takeStep st).s } := by
  cases st with
  | none => rfl
  | some v => cases e with | mk k0 kspan k i s er a profile => cases profile <;> rfl

/-- What an update sets. -/
theorem Engine.update_eq (e : Engine) (err : Int) : e.update err =
    { e with e := err, i := e.nextI err, k := e.clampK (e.rawK err), atLimit := e.clampActs err } := rfl

/-- The runs move the lock run and the drop run alone. -/
theorem Engine.countRun_eq (e : Engine) : e.countRun =
    { e with lockRun := e.countRun.lockRun, dropRun := e.countRun.dropRun } := by
  cases e with
  | mk k0 kspan k i s er a profile gains history atLimit lock => cases lock <;> rfl

theorem Engine.countRun_lockRun_acquire (e : Engine) (h : e.lock = .acquire) : e.countRun.lockRun =
    if e.e.natAbs ≤ e.wLock then countTo 1023 e.lockRun else 0 := by
  unfold Engine.countRun
  rw [h]
theorem Engine.countRun_dropRun_locked (e : Engine) (h : e.lock = .locked) : e.countRun.dropRun =
    if e.wDrop < e.e.natAbs then countTo 255 e.dropRun else 0 := by
  unfold Engine.countRun
  rw [h]

/-- A synthetic line start, and any line start outside ACQUIRE and LOCKED, is not measured. -/
theorem State.measure_none (s : State) (l : RefLine)
    (h : ¬(l.synthetic = false ∧ (s.engine.lock = .acquire ∨ s.engine.lock = .locked))) : s.measure l = s := if_neg h

/-- With an empty history S may move, and nothing else does (log 27). -/
theorem State.measure_empty (s : State) (l : RefLine)
    (h : l.synthetic = false ∧ (s.engine.lock = .acquire ∨ s.engine.lock = .locked))
    (hg : (s.engine.takeStep l.step).measureFrom ((s.engine.takeStep l.step).target l.stamp) = none) :
    s.measure l = s.setEngine (s.engine.takeStep l.step) := by
  unfold State.measure
  rw [if_pos h]
  show (match (s.engine.takeStep l.step).measureFrom ((s.engine.takeStep l.step).target l.stamp) with
    | none => _
    | some _ => _) = _
  rw [hg]

/-- A measurement: the update, the run, the limit reports, and the transition that the run brings. -/
theorem State.measure_some (s : State) (l : RefLine) {g : Stamp}
    (h : l.synthetic = false ∧ (s.engine.lock = .acquire ∨ s.engine.lock = .locked))
    (hg : (s.engine.takeStep l.step).measureFrom ((s.engine.takeStep l.step).target l.stamp) = some g) :
    let e := s.engine.takeStep l.step
    let err := foldError (lnom s.timing.standard) (e.target l.stamp - g).toNat
    let s1 := (s.setEngine (e.update err).countRun).postAll (e.limitPosts err)
    s.measure l = s1.testUpdate.1.postAll s1.testUpdate.2 := by
  unfold State.measure
  rw [if_pos h]
  show (match (s.engine.takeStep l.step).measureFrom ((s.engine.takeStep l.step).target l.stamp) with
    | none => _
    | some _ => _) = _
  rw [hg]

/-- Entry to LOCKED clears the drop run and the miss run (R51). -/
theorem State.enterLocked_engine (s : State) : s.enterLocked.1.engine =
    { s.engine with lock := .locked, unlocked := false, dropRun := 0, missRun := 0 } := by
  unfold State.enterLocked
  rw [State.changeLock_engine]
  simp [LockState.isUnlocked]

/-- The drop of lock clears the three runs and the vertical match (R52, R53). -/
theorem State.dropLock_engine (s : State) : s.dropLock.1.engine =
    { s.engine with
      lock := .acquire, unlocked := true, lockRun := 0, vmatch := false, dropRun := 0, missRun := 0 } := by
  unfold State.dropLock
  rw [State.changeLock_engine]
  simp [LockState.isUnlocked]

/-- The transition tested after an update: none, entry to LOCKED, or the drop of lock. -/
theorem State.testUpdate_cases (s : State) :
    s.testUpdate = (s, []) ∨
    (s.testUpdate = s.enterLocked ∧ s.engine.lock = .acquire ∧ s.engine.nLock ≤ s.engine.lockRun ∧ s.engine.vmatch = true) ∨
    (s.testUpdate = s.dropLock ∧ s.engine.lock = .locked ∧ s.engine.nUnlock ≤ s.engine.dropRun) := by
  unfold State.testUpdate
  split
  · rename_i h
    unfold State.testLocked
    split
    · rename_i c
      exact Or.inr (Or.inl ⟨rfl, h, c.2.1, c.2.2⟩)
    · exact Or.inl rfl
  · rename_i h
    split
    · rename_i c
      exact Or.inr (Or.inr ⟨rfl, h, c⟩)
    · exact Or.inl rfl
  · exact Or.inl rfl

end Sys2Proof.Machine
end

