-- ==== Sys2Proof/Laws/Link.lean ====
section
/-! SUPPORT. The closing of the receiver, the bytes of a closed period, and what a request does in each receive state. -/

namespace Sys2Proof.Machine

/-! ## Answers (R172, R173) -/

@[simp] theorem State.okay_state (s : State) (r : List Byte) : (s.okay r).state = s := rfl
@[simp] theorem State.okay_status (s : State) (r : List Byte) : (s.okay r).status = .ok := rfl
@[simp] theorem State.okay_results (s : State) (r : List Byte) : (s.okay r).results = r := rfl
@[simp] theorem State.refuse_state (s : State) (st : Status) : (s.refuse st).state = s := rfl
@[simp] theorem State.refuse_status (s : State) (st : Status) : (s.refuse st).status = st := rfl
@[simp] theorem State.refuse_results (s : State) (st : Status) : (s.refuse st).results = [] := rfl

/-! ## The closing of the receiver touches the link alone -/

section
variable (s : State) (kind : Byte) (body : List Byte)
@[simp] theorem State.close_stamp : (s.close kind body).stamp = s.stamp := rfl
@[simp] theorem State.close_pulse : (s.close kind body).pulse = s.pulse := rfl
@[simp] theorem State.close_classifier : (s.close kind body).classifier = s.classifier := rfl
@[simp] theorem State.close_engine : (s.close kind body).engine = s.engine := rfl
@[simp] theorem State.close_timing : (s.close kind body).timing = s.timing := rfl
@[simp] theorem State.close_store : (s.close kind body).store = s.store := rfl
@[simp] theorem State.close_mixer : (s.close kind body).mixer = s.mixer := rfl
@[simp] theorem State.close_banks : (s.close kind body).banks = s.banks := rfl
@[simp] theorem State.close_fades : (s.close kind body).fades = s.fades := rfl
@[simp] theorem State.close_cues : (s.close kind body).cues = s.cues := rfl
@[simp] theorem State.close_reports : (s.close kind body).reports = s.reports := rfl
@[simp] theorem State.close_draw : (s.close kind body).draw = s.draw := rfl
@[simp] theorem State.close_pending : (s.close kind body).pending = s.pending := rfl
theorem State.close_link : (s.close kind body).link = { s.link with
    rx := .closed, frame := none, timer := none, closedKind := kind, closedCount := 0, reply := replyFrame body } := rfl
end

/-- Discarded bytes are counted, and the first of a closed period latches LINK_FAULT. -/
theorem State.discardBytes_eq (s : State) (n : Nat) : s.discardBytes n =
    (if s.link.closedCount = 0 then s.latch condLinkFault else s).setLink
      { s.link with closedCount := min 65535 (s.link.closedCount + n) } := by
  unfold State.discardBytes
  dsimp only
  split <;> rfl

/-! ## A request in each receive state (R171, R172; log 9) -/

/-- A frame that completes is executed, and the receiver closes for its reply. -/
theorem State.request_taken (s : State) {kind : Byte} {params : List Byte} (handler : State → Answer)
    (hp : params.length ≤ paramRoom) (hc : s.link.completes kind params = true) :
    s.request kind params handler =
      .next ((handler s).state.close kind (kind :: (handler s).status.code :: (handler s).results)).settle := by
  unfold State.request State.takeFrame
  rw [if_pos hp, if_pos hc]
  rfl

/-- A frame that arrives while CLOSED is discarded byte by byte. -/
theorem State.request_closed (s : State) {kind : Byte} {params : List Byte} (handler : State → Answer)
    (hp : params.length ≤ paramRoom) (hc : s.link.rx = .closed) :
    s.request kind params handler = .next (s.discardBytes (params.length + 4)).settle := by
  have : s.link.completes kind params = false := by unfold Link.completes; rw [hc]
  unfold State.request State.takeFrame
  rw [if_pos hp, if_neg (by rw [this]; exact Bool.false_ne_true), if_pos hc]

/-- A frame that neither completes nor finds the receiver CLOSED has no effect. -/
theorem State.request_ignored (s : State) {kind : Byte} {params : List Byte} (handler : State → Answer)
    (hc : s.link.completes kind params = false) (hr : s.link.rx ≠ .closed) : s.request kind params handler = .next s := by
  have hn : s.takeFrame kind params handler = none := by
    simp only [State.takeFrame, hc, hr, Bool.false_eq_true, if_false, ite_self]
  unfold State.request
  rw [hn]

/-- A request always answers a next state. -/
theorem State.request_next (s : State) (kind : Byte) (params : List Byte) (handler : State → Answer) :
    s.request kind params handler = .next ((handler s).state.close kind ((handler s).body kind)).settle ∨
    s.request kind params handler = .next (s.discardBytes (params.length + 4)).settle ∨
    s.request kind params handler = .next s := by
  unfold State.request State.takeFrame
  split
  next h =>
    split at h
    · split at h
      · exact Or.inl (by rw [← Option.some.inj h])
      · split at h
        · exact Or.inr (Or.inl (by rw [← Option.some.inj h]))
        · cases h
    · cases h
  · exact Or.inr (Or.inr rfl)

/-! ## The byte gap (R170) -/

/-- With the timer started at a byte's stamp, the gap is over from 25 ms after that stamp on. -/
theorem State.gapIsOver_iff (s : State) {last : Stamp} (h : s.link.timer = some (last + byteGap)) :
    s.gapIsOver = true ↔ byteGap ≤ s.stamp - last := by
  unfold State.gapIsOver
  rw [h]
  dsimp only
  rw [BitVec.add_sub_cancel]
  exact decide_eq_true_iff

/-- A stopped timer never expires. -/
theorem State.gapIsOver_none (s : State) (h : s.link.timer = none) : s.gapIsOver = false := by
  unfold State.gapIsOver
  rw [h]

/-- An expiry commanded too soon changes nothing. -/
theorem execFrameTimeout_early (s : State) (h : s.gapIsOver = false) : execFrameTimeout s = .next s := by
  unfold execFrameTimeout
  rw [h]
  exact if_neg Bool.false_ne_true

/-! ## Frames (R167) -/

/-- The sum of a list of bytes from a start. -/
theorem foldl_add_start (a : Byte) (bs : List Byte) : bs.foldl (· + ·) a = a + bs.foldl (· + ·) 0 := by
  induction bs generalizing a with
  | nil => exact (BitVec.add_zero a).symm
  | cons b bs ih => 
    rw [List.foldl_cons, List.foldl_cons, ih (a + b), ih (0 + b), BitVec.add_assoc]
    congr 2
    exact (BitVec.zero_add b).symm

/-- The check byte completes the sum to 0. -/
theorem checkByte_sum (n : Byte) (body : List Byte) : body.foldl (· + ·) n + checkByte n body = 0 := by
  unfold checkByte
  rw [BitVec.add_comm]
  exact BitVec.sub_add_cancel 0 _

end Sys2Proof.Machine
end

