-- ==== Sys2Proof/Laws/Operands.lean ====
section
/-! SUPPORT. Clamps, rounded shifts, bytes and fields: what their results are. -/

namespace Sys2Proof.Machine

/-! ## Clamps -/

theorem clampNat_bounds {a b : Nat} (h : a ≤ b) (x : Nat) : a ≤ clampNat a b x ∧ clampNat a b x ≤ b := by
  unfold clampNat
  split
  · exact ⟨le_refl a, h⟩
  · split <;> constructor <;> omega

/-- A value within the bounds is not changed. -/
theorem clampNat_of_mem {a b x : Nat} (h₁ : a ≤ x) (h₂ : x ≤ b) : clampNat a b x = x := by
  rw [clampNat, if_neg (by omega), if_neg (by omega)]

theorem clampInt_bounds {a b : Int} (h : a ≤ b) (x : Int) : a ≤ clampInt a b x ∧ clampInt a b x ≤ b := by
  unfold clampInt
  split
  · exact ⟨le_refl a, h⟩
  · split <;> constructor <;> omega

theorem clampInt_of_mem {a b x : Int} (h₁ : a ≤ x) (h₂ : x ≤ b) : clampInt a b x = x := by
  rw [clampInt, if_neg (by omega), if_neg (by omega)]

/-- A clamp to a symmetric range bounds the magnitude. -/
theorem clampInt_natAbs (b : Nat) (x : Int) : (clampInt (-b) b x).natAbs ≤ b := by
  have h := clampInt_bounds (show (-b : Int) ≤ b by omega) x
  omega

theorem countTo_le {limit n : Nat} : countTo limit n ≤ limit := by
  unfold countTo
  split <;> omega

/-! ## Indices and enumerations -/

/-- An index below its bound is itself. -/
theorem indexBelow_val {n : Nat} (i : Fin n) : indexBelow n i.val = some i := dif_pos i.isLt

/-- A number that names nothing is none. -/
theorem indexBelow_none {n v : Nat} (h : n ≤ v) : indexBelow n v = none := dif_neg (by omega)

theorem flagOf_boolCode (b : Bool) : flagOf (boolCode b) = some b := by cases b <;> rfl
theorem standardOf_code (x : Standard) : standardOf x.code = some x := by cases x <;> rfl
theorem rasterModeOf_code (x : RasterMode) : rasterModeOf x.code = some x := by cases x <;> rfl
theorem profileOf_code (x : Profile) : profileOf x.code = some x := by cases x <;> rfl
theorem colourClassOf_code (x : ColourClass) : colourClassOf x.code = some x := by cases x <;> rfl
theorem lossPolicyOf_code (x : LossPolicy) : lossPolicyOf x.code = some x := by cases x <;> rfl
theorem bankOf_code (x : BankName) : bankOf x.code = some x := by cases x <;> rfl
theorem mixModeOf_code (x : MixMode) : mixModeOf x.code = some x := by cases x <;> rfl
theorem fadeKindOf_code (x : FadeKind) : fadeKindOf x.code = some x := by cases x <;> rfl
theorem cueListOf_code (x : CueList) : cueListOf x.code = some x := by cases x <;> rfl

/-! ## Bytes -/

@[simp] theorem bytesOf_length (n v : Nat) : (bytesOf n v).length = n := by
  induction n generalizing v with
  | zero => rfl
  | succ n ih => rw [bytesOf, List.length_append, ih]; rfl

@[simp] theorem bytesOfInt_length (n : Nat) (v : Int) : (bytesOfInt n v).length = n := bytesOf_length n _

/-- A byte as a number of one byte. -/
theorem beNat_one (a : Byte) : beNat [a] = a.toNat := by simp [beNat]

theorem beNat_two (a b : Byte) : beNat [a, b] = 256 * a.toNat + b.toNat := by simp [beNat]

theorem beNat_three (a b c : Byte) : beNat [a, b, c] = 65536 * a.toNat + 256 * b.toNat + c.toNat := by
  simp only [beNat, List.foldl_cons, List.foldl_nil]
  omega

theorem bytesOf_one (a : Byte) : bytesOf 1 a.toNat = [a] := by simp [bytesOf]

/-! ## Fields (R173) -/

/-- A parameter list has fields exactly when its length is the sum of the sizes. -/
theorem fields_isSome (ns : List Nat) (ps : List Byte) : (fields ns ps).isSome = decide (ps.length = ns.sum) := by
  induction ns generalizing ps with
  | nil => cases ps <;> rfl
  | cons n ns ih =>
    unfold fields
    split
    · rename_i h
      simp only [List.sum_cons, Option.isSome_none]
      exact (decide_eq_false (by omega)).symm
    · rename_i h
      rw [Option.isSome_map, ih, List.length_drop, List.sum_cons]
      exact decide_eq_decide.mpr (by omega)

/-- A list of the wrong length has no fields. -/
theorem fields_none {ns : List Nat} {ps : List Byte} (h : ps.length ≠ ns.sum) : fields ns ps = none := by
  have := fields_isSome ns ps
  rw [decide_eq_false h] at this
  exact Option.isSome_eq_false_iff.mp this |> Option.isNone_iff_eq_none.mp

/-- The fields are as many as the sizes. -/
theorem fields_length {ns : List Nat} {ps : List Byte} {vs : List Nat} (h : fields ns ps = some vs) : vs.length = ns.length := by
  induction ns generalizing ps vs with
  | nil => cases ps <;> simp_all [fields]
  | cons n ns ih =>
    unfold fields at h
    split at h
    · cases h
    · obtain ⟨r, hr, rfl⟩ := Option.map_eq_some_iff.mp h
      rw [List.length_cons, List.length_cons, ih hr]

end Sys2Proof.Machine
end

