-- ==== Sys2Proof/Laws/Samples.lean ====
section
/-! SUPPORT. The samples of a slot (log 19): every write keeps the canonical form, and a read after a write. -/

namespace Sys2Proof.Machine

/-- A canonical list from a bound on is canonical from every lower bound. -/
theorem Samples.wfFrom_mono {m : Samples} {lo lo' : Nat} (h : lo' ≤ lo) (w : Samples.wfFrom lo m = true) :
    Samples.wfFrom lo' m = true := by
  cases m with
  | nil => rfl
  | cons e es =>
    simp only [Samples.wfFrom, Bool.and_eq_true, decide_eq_true_eq] at w ⊢
    exact ⟨⟨⟨Nat.le_trans h w.1.1.1, w.1.1.2⟩, w.1.2⟩, w.2⟩

theorem Samples.wfFrom_remove (k : Nat) {m : Samples} {lo : Nat} (w : Samples.wfFrom lo m = true) :
    Samples.wfFrom lo (Samples.remove k m) = true := by
  induction m generalizing lo with
  | nil => rfl
  | cons e es ih =>
    simp only [Samples.wfFrom, Bool.and_eq_true, decide_eq_true_eq] at w
    unfold Samples.remove
    split
    · exact Samples.wfFrom_mono (Nat.le_trans w.1.1.1 (Nat.le_succ _)) w.2
    · simp only [Samples.wfFrom, Bool.and_eq_true, decide_eq_true_eq]
      exact ⟨w.1, ih w.2⟩

theorem Samples.wfFrom_insert {k : Nat} {v : Sample} (hk : k < sampleRoom) (hv : v ≠ Sample.black) {m : Samples} {lo : Nat}
    (hlo : lo ≤ k) (w : Samples.wfFrom lo m = true) : Samples.wfFrom lo (Samples.insert k v m) = true := by
  induction m generalizing lo with
  | nil =>
    simp only [Samples.insert, Samples.wfFrom, Bool.and_eq_true, decide_eq_true_eq]
    exact ⟨⟨⟨hlo, hk⟩, hv⟩, trivial⟩
  | cons e es ih =>
    simp only [Samples.wfFrom, Bool.and_eq_true, decide_eq_true_eq] at w
    unfold Samples.insert
    split
    · rename_i h
      simp only [Samples.wfFrom, Bool.and_eq_true, decide_eq_true_eq]
      exact ⟨⟨⟨hlo, hk⟩, hv⟩, ⟨⟨h, w.1.1.2⟩, w.1.2⟩, w.2⟩
    · split
      · rename_i h1 h2
        simp only [Samples.wfFrom, Bool.and_eq_true, decide_eq_true_eq]
        exact ⟨⟨⟨hlo, hk⟩, hv⟩, h2 ▸ w.2⟩
      · rename_i h1 h2
        simp only [Samples.wfFrom, Bool.and_eq_true, decide_eq_true_eq]
        exact ⟨w.1, ih (by omega) w.2⟩

/-- Every write keeps the canonical form. -/
theorem Samples.wf_write {m : Samples} {k : Nat} (v : Sample) (hk : k < sampleRoom) (w : Samples.wf m = true) :
    Samples.wf (Samples.write m k v) = true := by
  unfold Samples.write
  split
  · exact Samples.wfFrom_remove k w
  · rename_i hv
    exact Samples.wfFrom_insert hk hv (Nat.zero_le k) w

theorem Samples.read_cons (e : Nat × Sample) (es : Samples) (j : Nat) :
    Samples.read (e :: es) j = if e.1 = j then e.2 else Samples.read es j := by
  unfold Samples.read
  by_cases h : e.1 = j
  · simp [h]
  · have hb : (e.1 == j) = false := by simpa using h
    simp [List.find?, hb, h]

/-- Below its bound a canonical list holds nothing. -/
theorem Samples.read_below {m : Samples} {lo j : Nat} (w : Samples.wfFrom lo m = true) (hj : j < lo) :
    Samples.read m j = Sample.black := by
  induction m generalizing lo with
  | nil => rfl
  | cons e es ih =>
    simp only [Samples.wfFrom, Bool.and_eq_true, decide_eq_true_eq] at w
    rw [Samples.read_cons, if_neg (by omega)]
    exact ih w.2 (by omega)

theorem Samples.read_remove (k : Nat) {m : Samples} {lo : Nat} (w : Samples.wfFrom lo m = true) (j : Nat) :
    Samples.read (Samples.remove k m) j = if j = k then Sample.black else Samples.read m j := by
  induction m generalizing lo with
  | nil => simp [Samples.remove, Samples.read]
  | cons e es ih =>
    simp only [Samples.wfFrom, Bool.and_eq_true, decide_eq_true_eq] at w
    unfold Samples.remove
    split
    · rename_i h
      rw [Samples.read_cons]
      by_cases hj : j = k
      · rw [if_pos hj]
        exact Samples.read_below w.2 (by omega)
      · rw [if_neg hj, if_neg (by omega)]
    · rename_i h
      rw [Samples.read_cons, Samples.read_cons, ih w.2]
      by_cases hj : j = k
      · simp [hj, h]
      · simp [hj]

theorem Samples.read_insert (k : Nat) (v : Sample) {m : Samples} {lo : Nat} (w : Samples.wfFrom lo m = true) (j : Nat) :
    Samples.read (Samples.insert k v m) j = if j = k then v else Samples.read m j := by
  induction m generalizing lo with
  | nil =>
    simp only [Samples.insert, Samples.read_cons]
    by_cases hj : j = k
    · simp [hj]
    · simp [hj, Ne.symm hj]
  | cons e es ih =>
    simp only [Samples.wfFrom, Bool.and_eq_true, decide_eq_true_eq] at w
    unfold Samples.insert
    split
    · rw [Samples.read_cons]
      by_cases hj : j = k
      · simp [hj]
      · simp [hj, Ne.symm hj]
    · split
      · rename_i h1 h2
        rw [Samples.read_cons, Samples.read_cons]
        by_cases hj : j = k
        · simp [hj]
        · rw [if_neg (by omega), if_neg hj, if_neg (by omega)]
      · rename_i h1 h2
        rw [Samples.read_cons, Samples.read_cons, ih w.2]
        by_cases hj : j = k
        · simp [hj, h2]
        · simp [hj]

/-- A read after a write: the sample written at its number, the sample before at every other. -/
theorem Samples.read_write {m : Samples} (w : Samples.wf m = true) (k : Nat) (v : Sample) (j : Nat) :
    Samples.read (Samples.write m k v) j = if j = k then v else Samples.read m j := by
  unfold Samples.write
  split
  · rename_i h
    rw [Samples.read_remove k w, h]
  · exact Samples.read_insert k v w j

end Sys2Proof.Machine
end

