-- ==== Sys2Proof/Laws/Store.lean ====
section
/-! SUPPORT. The line store's operations: which slots they touch, and what the look-ups find. -/

namespace Sys2Proof.Machine

/-! ## Slots -/

theorem Store.setSlot_self (st : Store) (i : Fin 8) (x : Slot) : (st.setSlot i x).slots[i] = x := by
  show (st.slots.set i x)[i] = x
  simp

theorem Store.setSlot_ne (st : Store) {i j : Fin 8} (h : i ≠ j) (x : Slot) : (st.setSlot i x).slots[j] = st.slots[j] := by
  have hv : (i : Nat) ≠ j := fun e => h (Fin.ext e)
  show (st.slots.set i x)[j] = st.slots[j]
  simp [Vector.getElem_set_ne _ _ hv]

/-- The slots of a freed slot: it is cleared and the others stay. -/
theorem Store.freeSlot_slots (st : Store) (i j : Fin 8) :
    (st.freeSlot i).slots[j] = if j = i then Slot.cleared else st.slots[j] := by
  show (st.setSlot i Slot.cleared).slots[j] = _
  by_cases h : j = i
  · subst h
    rw [if_pos rfl, Store.setSlot_self]
  · rw [if_neg h, Store.setSlot_ne _ (Ne.symm h)]

@[simp] theorem Store.freeSlot_shown (st : Store) (i : Fin 8) : (st.freeSlot i).shown = st.shown := rfl
@[simp] theorem Store.freeSlot_seq (st : Store) (i : Fin 8) : (st.freeSlot i).seq = st.seq := rfl
@[simp] theorem Store.freeSlot_active (st : Store) (i : Fin 8) : (st.freeSlot i).active = st.active := rfl

theorem Store.freeSlot_role (st : Store) (i j : Fin 8) : (st.freeSlot i).role j = if j = i then .free else st.role j := by
  unfold Store.role
  rw [Store.freeSlot_slots]
  split <;> rfl

theorem Store.freeSlots_slots (st : Store) (is : List (Fin 8)) (j : Fin 8) :
    (st.freeSlots is).slots[j] = if j ∈ is then Slot.cleared else st.slots[j] := by
  unfold Store.freeSlots
  induction is generalizing st with
  | nil => rfl
  | cons i is ih =>
    rw [List.foldl_cons, ih, Store.freeSlot_slots]
    by_cases h : j = i <;> by_cases m : j ∈ is <;> simp [h, m]

theorem Store.freeSlots_shown (st : Store) (is : List (Fin 8)) : (st.freeSlots is).shown = st.shown := by
  unfold Store.freeSlots
  induction is generalizing st with
  | nil => rfl
  | cons i is ih => exact (ih _).trans (Store.freeSlot_shown st i)

/-! ## Look-ups (R66, R67) -/

theorem Store.mem_filled (st : Store) (i : Fin 8) : i ∈ st.filled ↔ st.role i = .filled := by
  simp [Store.filled]

/-- A look-up that finds a slot finds a FILLED one of the key. -/
theorem Store.lookUp_some {st : Store} {k : Key} {i : Fin 8} (h : st.lookUp k = some i) :
    st.role i = .filled ∧ (st.slots[i]).key = k :=
  ⟨(st.mem_filled i).mp (List.mem_of_find?_eq_some h), by simpa using List.find?_some h⟩

/-- A look-up that finds nothing: no FILLED slot has the key. -/
theorem Store.lookUp_none {st : Store} {k : Key} : st.lookUp k = none ↔ ∀ i, st.role i = .filled → (st.slots[i]).key ≠ k := by
  unfold Store.lookUp
  rw [List.find?_eq_none]
  constructor
  · intro h i hi
    simpa using h i ((st.mem_filled i).mpr hi)
  · intro h i hi
    simpa using h i ((st.mem_filled i).mp hi)

/-- No two FILLED slots of a key: the look-up finds the one there is. -/
theorem Store.lookUp_eq {st : Store} (ok : st.slotsOk) {k : Key} {i : Fin 8} (hr : st.role i = .filled)
    (hk : (st.slots[i]).key = k) : st.lookUp k = some i := by
  cases h : st.lookUp k with
  | none => exact absurd hk (Store.lookUp_none.mp h i hr)
  | some j =>
    obtain ⟨jr, jk⟩ := Store.lookUp_some h
    rw [ok.1 j i jr hr (jk.trans hk.symm)]

/-- The oldest of a list is on it, and none of the list is older. -/
theorem Store.oldest_some (st : Store) (is : List (Fin 8)) (i : Fin 8) (h : st.oldest is = some i) :
    i ∈ is ∧ ∀ j ∈ is, st.age j ≤ st.age i := by
  induction is generalizing i with
  | nil => cases h
  | cons x xs ih =>
    unfold Store.oldest at h
    cases hx : st.oldest xs with
    | none =>
      rw [hx] at h
      cases h
      have : xs = [] := by
        cases xs with
        | nil => rfl
        | cons y ys =>
          unfold Store.oldest at hx
          split at hx
          · cases hx
          · split at hx <;> cases hx
      subst this
      simp
    | some y =>
      rw [hx] at h
      obtain ⟨my, ay⟩ := ih y hx
      simp only at h
      split at h
      · rename_i c
        cases h
        refine ⟨List.mem_cons_self, fun j hj => ?_⟩
        rcases List.mem_cons.mp hj with rfl | hj
        · exact Nat.le_refl _
        · exact Nat.le_trans (ay j hj) c
      · rename_i c
        cases h
        refine ⟨List.mem_cons_of_mem _ my, fun j hj => ?_⟩
        rcases List.mem_cons.mp hj with rfl | hj
        · omega
        · exact ay j hj

/-! ## Activity (R68) -/

/-- A change of lock state handed on: the store is active as the state gives. -/
theorem Store.handed_active (st : Store) (new : LockState) : (st.handed new).active = new.storeActive := by
  unfold Store.handed
  cases h : new.storeActive
  · rfl
  · cases ha : st.active
    · rfl
    · exact ha

/-- Between two states that keep it active the store keeps everything. -/
theorem Store.handed_kept (st : Store) {new : LockState} (h : new.storeActive = true) (ha : st.active = true) :
    st.handed new = st := by
  unfold Store.handed
  rw [if_pos h, if_pos ha]

/-- Any other change leaves every slot FREE and nothing shown or sampled. -/
theorem Store.handed_cleared (st : Store) {new : LockState} (h : ¬(new.storeActive = true ∧ st.active = true)) :
    (st.handed new).slots = Vector.replicate 8 Slot.cleared ∧ (st.handed new).shown = none ∧
    (st.handed new).sampling = none := by
  unfold Store.handed
  split
  · rename_i hn
    rw [if_neg (fun ha => h ⟨hn, ha⟩)]
    exact ⟨rfl, rfl, rfl⟩
  · exact ⟨rfl, rfl, rfl⟩

/-- D, H and the write sequence counter are kept through every change of lock state. -/
theorem Store.handed_settings (st : Store) (new : LockState) :
    (st.handed new).d = st.d ∧ (st.handed new).h = st.h ∧ (st.handed new).hLine = st.hLine ∧
    (st.handed new).seq = st.seq := by
  unfold Store.handed
  split
  · split <;> exact ⟨rfl, rfl, rfl, rfl⟩
  · exact ⟨rfl, rfl, rfl, rfl⟩

/-! ## Sampling (R71) -/

/-- A sampling tick touches the slots and the sampling alone. -/
theorem Store.sampleTick_eq (st : Store) (reading : Stamp) (ref : Sample) : st.sampleTick reading ref =
    { st with slots := (st.sampleTick reading ref).slots, sampling := (st.sampleTick reading ref).sampling } := by
  unfold Store.sampleTick
  split
  · rfl
  · split
    · rfl
    · split <;> rfl

/-- Without a sampling slot a tick changes nothing in the store. -/
theorem Store.sampleTick_none (st : Store) (reading : Stamp) (ref : Sample) (h : st.sampling = none) :
    st.sampleTick reading ref = st := by
  unfold Store.sampleTick
  rw [h]

end Sys2Proof.Machine
end

