-- ==== Sys2Proof/Laws/Timing.lean ====
section
/-! SUPPORT. The tick and what it carries: which command runs, and what a field start, a line start and the end of a tick
leave in the units they do not reach. -/

namespace Sys2Proof.Machine

/-! ## Which command runs (log 7) -/

theorem State.onTick_of {s : State} {kind : TickKind} (h : s.tickKind = kind) (t : State) : s.onTick kind t = .next t := if_pos h

theorem State.onTick_ne {s : State} {kind : TickKind} (h : s.tickKind ≠ kind) (t : State) : s.onTick kind t = .next s := if_neg h

/-- Every tick that is not a measurement tick carries. -/
theorem State.carries_of_tickKind (s : State) (h : s.tickKind ≠ .measurement) : 2 ^ 32 ≤ s.timing.acc.toNat + s.engine.k := by
  by_contra hc
  have : s.carries = false := decide_eq_false hc
  exact h (by rw [State.tickKind, this]; rfl)

/-! ## The end of a carrying tick -/

section
variable (s : State) (ref : Sample)
theorem State.sampleAndRead_store : (s.sampleAndRead ref).1.store = s.store.sampleTick s.stamp ref := rfl
theorem State.sampleAndRead_eq : (s.sampleAndRead ref).1 = (s.setStore (s.store.sampleTick s.stamp ref)).setDraw (s.draw + 1) := rfl
end

/-- The mixer's work at a pixel clock changes the mixer, and may latch CLIP. -/
theorem State.mixPixel_eq (s : State) (video : Sample) (index : BitVec 4) :
    s.mixPixel video index = (s.setMixer (s.mixPixel video index).mixer).setReports (s.mixPixel video index).reports := by
  unfold State.mixPixel
  dsimp only
  split <;> rfl

/-- What a carrying tick leaves, given what its event made of the state. -/
theorem State.carryTick_keeps (s : State) (index : BitVec 4) (ref : Sample) (event : State → State) :
    let made := event (s.accumulate.setTiming s.accumulate.timing.advancePixel)
    let t := s.carryTick index ref event
    t.stamp = made.stamp + 16 ∧ t.pulse = made.pulse ∧ t.classifier = made.classifier ∧ t.engine = made.engine ∧
    t.timing = made.timing ∧ t.store = made.store.sampleTick made.stamp ref ∧ t.banks = made.banks ∧ t.fades = made.fades ∧
    t.cues = made.cues ∧ t.link = made.link ∧ t.pending = made.pending ∧ t.reports.queues = made.reports.queues := by
  intro made t
  have ht : t = (((made.sampleAndRead ref).1.mixPixel (made.sampleAndRead ref).2 index).endTick).settle := rfl
  have hq : ((made.sampleAndRead ref).1.mixPixel (made.sampleAndRead ref).2 index).reports.queues = made.reports.queues := by
    unfold State.mixPixel
    dsimp only
    split <;> rfl
  rw [ht]
  rw [State.mixPixel_eq] at hq ⊢
  exact ⟨rfl, rfl, rfl, rfl, rfl, rfl, rfl, rfl, rfl, rfl, rfl, hq⟩

/-! ## The request within a field start (R99, R108, R119; log 14) -/

@[simp] theorem State.takeBetween_nil (s : State) : s.takeBetween [] = s := rfl

/-- The state with another pending keyer state, other banks and other generators. -/
theorem State.title_self (s : State) :
    ∃ k b f, s = ((s.setMixer { s.mixer with keyerNext := k }).setBanks b).setFades f :=
  ⟨s.mixer.keyerNext, s.banks, s.fades, rfl⟩

theorem State.title_keyer (s : State) (v : Bool) :
    ∃ k b f, s.setMixer (s.mixer.writeKeyer v) = ((s.setMixer { s.mixer with keyerNext := k }).setBanks b).setFades f :=
  ⟨if v = s.mixer.keyer then none else some v, s.banks, s.fades, rfl⟩

theorem State.title_banks (s : State) (b' : Banks) :
    ∃ k b f, s.setBanks b' = ((s.setMixer { s.mixer with keyerNext := k }).setBanks b).setFades f :=
  ⟨s.mixer.keyerNext, b', s.fades, rfl⟩

theorem State.title_fades (s : State) (f' : Vector Fade 4) :
    ∃ k b f, s.setFades f' = ((s.setMixer { s.mixer with keyerNext := k }).setBanks b).setFades f :=
  ⟨s.mixer.keyerNext, s.banks, f', rfl⟩

/-- The work put before the walk is the bank unit's or the mixer's. -/
theorem State.orderedBy_ne (s : State) (between : List Byte) :
    s.orderedBy between ≠ some .walk ∧ ∀ g, s.orderedBy between ≠ some (.fade g) := by
  unfold State.orderedBy betweenUnit
  split
  · simp
  · split_ifs <;> simp

/-- A request within a field start may set the pending keyer state, the banks and the generators, and nothing else. -/
theorem betweenAnswer_frame {kind : Byte} {params : List Byte} {handler : State → Answer}
    (h : betweenAnswer kind params = some handler) (s : State) : ∃ k b f,
      (handler s).state = ((s.setMixer { s.mixer with keyerNext := k }).setBanks b).setFades f := by
  unfold betweenAnswer at h
  split_ifs at h <;> cases h
  · unfold answerKeyer
    split
    · dsimp only
      split
      · exact s.title_self
      · exact s.title_keyer _
    · exact s.title_self
  · unfold answerWindowSet State.editWindow
    split
    · split
      · split
        · exact s.title_self
        · exact s.title_banks _
      · exact s.title_self
    · exact s.title_self
  · unfold answerWindowClear State.editWindow
    split
    · dsimp only
      split
      · split
        · exact s.title_self
        · exact s.title_banks _
      · exact s.title_self
    · exact s.title_self
  · unfold answerBankSwap
    split
    · dsimp only
      split
      · exact s.title_self
      · split
        · exact s.title_self
        · exact s.title_banks _
    · exact s.title_self
  · unfold answerQueryBank
    split
    · dsimp only
      split <;> exact s.title_self
    · exact s.title_self
  · unfold answerQueryMixer
    split <;> exact s.title_self
  · unfold answerFadeLoad
    split
    · dsimp only
      split
      · exact s.title_self
      · exact s.title_fades _
    · exact s.title_self
  · unfold answerFadeHold
    split
    · exact s.title_fades _
    · exact s.title_self
  · unfold answerFadeResume
    split
    · exact s.title_fades _
    · exact s.title_self
  · unfold answerQueryFade
    split <;> exact s.title_self

/-- Everything a request within a field start can do: the pending keyer state, the banks, the generators and the link, and
LINK_FAULT when its bytes are discarded. -/
theorem State.takeBetween_frame (s : State) (between : List Byte) : ∃ k b f l n,
    s.takeBetween between =
      ((((s.setMixer { s.mixer with keyerNext := k }).setBanks b).setFades f).setLink l).setReports
        { s.reports with latched := n } := by
  have title : ((s.setMixer { s.mixer with keyerNext := s.mixer.keyerNext }).setBanks s.banks).setFades s.fades = s := rfl
  have same : ∃ k b f l n, s = ((((s.setMixer { s.mixer with keyerNext := k }).setBanks b).setFades f).setLink l).setReports
      { s.reports with latched := n } :=
    ⟨s.mixer.keyerNext, s.banks, s.fades, s.link, s.reports.latched, by
      rw [title, show s.setLink s.link = s from rfl]
      rfl⟩
  cases between with
  | nil => exact same
  | cons kind params =>
    show ∃ k b f l n, (match betweenAnswer kind params with
      | some handler => (s.takeFrame kind params handler).getD s
      | none => s) = _
    cases h : betweenAnswer kind params with
    | none => exact same
    | some handler =>
      obtain ⟨k, b, f, e⟩ := betweenAnswer_frame h s
      show ∃ k b f l n, (s.takeFrame kind params handler).getD s = _
      unfold State.takeFrame
      split
      · split
        · refine ⟨k, b, f, ((handler s).state.close kind ((handler s).body kind)).link, s.reports.latched, ?_⟩
          show (handler s).state.setLink ((handler s).state.close kind ((handler s).body kind)).link = _
          generalize ((handler s).state.close kind ((handler s).body kind)).link = l
          rw [e]
          rfl
        · split
          · dsimp only [Option.getD]
            rw [State.discardBytes_eq]
            split
            · refine ⟨s.mixer.keyerNext, s.banks, s.fades,
                { s.link with closedCount := min 65535 (s.link.closedCount + (params.length + 4)) },
                s.reports.latched ||| condBit condLinkFault, ?_⟩
              rw [title]
              rfl
            · refine ⟨s.mixer.keyerNext, s.banks, s.fades,
                { s.link with closedCount := min 65535 (s.link.closedCount + (params.length + 4)) },
                s.reports.latched, ?_⟩
              rw [title]
              rfl
          · exact same
      · exact same

/-! ## A field start (R44) -/

/-- The lock engine at a generated field start: nothing but in HOLDOVER, where the count goes down or the engine enters FREE. -/
theorem State.takeGeneratedField_other (s : State) (h : s.engine.lock ≠ .holdover) : s.takeGeneratedField = (s, []) := if_neg h

theorem State.takeGeneratedField_banks (s : State) : s.takeGeneratedField.1.banks = s.banks := by
  unfold State.takeGeneratedField
  split
  · dsimp only
    split
    · exact State.changeLock_banks ..
    · rfl
  · rfl

theorem State.takeGeneratedField_count (s : State) : s.takeGeneratedField.1.timing =
    { s.timing with jam := s.takeGeneratedField.1.timing.jam } := by
  unfold State.takeGeneratedField
  split
  · dsimp only
    split
    · rw [State.changeLock_timing]
      split <;> rfl
    · rfl
  · rfl

/-- A field start in the timing generator: the count, the parity and the syncs (R44, R46). -/
theorem Timing.startField_eq (t : Timing) (p : Parity) (cause : Cause) : t.startField p cause =
    { t with parity := p, count := t.load.getD (t.count + 1), load := none, fieldSync := some 3,
             frameRestart := t.frameRestart || decide (cause ≠ .natural), newField := true } := rfl

/-- The banks and the keyer at a field start: pending changes are applied, and no change stays pending. -/
theorem Banks.perform_swap (b : Banks) : b.perform.1.swap = none := by
  unfold Banks.perform
  cases h : b.swap with
  | none => exact h
  | some c =>
    dsimp only
    cases c
    · rfl
    · cases hl : b.live <;> rfl

theorem Mixer.applyKeyer_none (m : Mixer) : m.applyKeyer.1.keyerNext = none := by
  unfold Mixer.applyKeyer
  cases h : m.keyerNext with
  | none => exact h
  | some v => rfl

theorem Mixer.applyKeyer_keyer (m : Mixer) : m.applyKeyer.1.keyer = m.keyerNext.getD m.keyer := by
  unfold Mixer.applyKeyer
  cases h : m.keyerNext <;> rfl

/-! ## The timing restart (R64) -/

/-- What a timing restart leaves outside the lock half and the reports. -/
theorem State.timingRestart_keeps (s : State) (changed : Bool) :
    (s.timingRestart changed).stamp = s.stamp ∧ (s.timingRestart changed).pulse = s.pulse ∧
    (s.timingRestart changed).banks = s.banks ∧ (s.timingRestart changed).fades = s.fades ∧
    (s.timingRestart changed).cues = s.cues ∧ (s.timingRestart changed).link = s.link ∧
    (s.timingRestart changed).pending = s.pending := by
  unfold State.timingRestart State.engineRestart
  simp

end Sys2Proof.Machine
end

