-- ==== Sys2Proof/Tests/Slice0.lean ====
section
/-! SUPPORT. Tests: ill-formed terms, the worked cases of the spec on one step each, and for every statement with hypotheses
a state and operands that meet them. -/

namespace Sys2Proof.Tests

open Sys2Proof.Machine

/-! ## Helpers -/

/-- The state after a command, or the state itself if there were none. -/
def after (i : Instr) (s : State) : State :=
  match exec i s with
  | .next t => t
  | _ => s

/-- The body of the reply that a command leaves on its way. -/
def answer (i : Instr) (s : State) : List Byte := ((after i s).link.reply.drop 2).dropLast

/-- The records of a queue. -/
def queue (q : Fin 4) (s : State) : List Report := s.reports.queues[q]

/-! ## Ill-formed terms are refused -/

theorem test_wf_long_body : (Instr.echo (List.replicate 96 0)).wf = false := by decide
theorem test_wf_longest_body : (Instr.echo (List.replicate 95 0)).wf = true := by decide
theorem test_wf_possible_length : (Instr.badLength 5).wf = false := by decide
theorem test_wf_impossible_lengths : (Instr.badLength 0).wf = true ∧ (Instr.badLength 97).wf = true := by decide
theorem test_wf_known_kind : (Instr.unknownRequest 0x10 []).wf = false := by decide
theorem test_wf_unknown_kind : (Instr.unknownRequest 0x00 []).wf = true := by decide
theorem test_wf_between_kind : (Instr.midLineFieldStart 0 ⟨Sample.black, [0x10, 1]⟩).wf = false ∧
    (Instr.generatedLineStart 0 ⟨Sample.black, 0x36 :: List.replicate 96 0⟩).wf = false := by decide
theorem test_wf_between : (Instr.jamCheckComplete 0 ⟨Sample.black, [0x36, 1]⟩).wf = true ∧
    (Instr.timingRestartCarry 0 ⟨Sample.black, []⟩).wf = true := by decide

/-! ## The link (spec/10) -/

/-- 10.2.02: the check bytes of the worked example. -/
theorem test_check_bytes : checkByte 3 [0x01, 0x41, 0x42] = 0x79 ∧ checkByte 4 [0x01, 0x00, 0x41, 0x42] = 0x78 := by decide

/-- 10.2.02: the reply frame of ECHO. -/
theorem test_echo_reply : (after (.echo [0x41, 0x42]) State.reset).link.reply = [0xD5, 4, 0x01, 0x00, 0x41, 0x42, 0x78] := by
  decide

/-- 10.2.02: the frame byte by byte, its check byte still to come. -/
theorem test_echo_bytewise : (State.reset.receive [0xD4, 3, 0x01, 0x41, 0x42]).link =
    { Link.reset with rx := .awaitCheck, frame := some ⟨3, [0x01, 0x41, 0x42]⟩, timer := some 9600000 } := by decide

/-- A link in the middle of a frame: two body bytes of three. -/
def inFrame : State := State.reset.setLink
  { Link.reset with rx := .inBody, frame := some ⟨3, [0x16]⟩, timer := some 9600000 }

/-- A link that awaits its check byte. -/
def atCheck : State := State.reset.setLink
  { Link.reset with rx := .awaitCheck, frame := some ⟨1, [0x1A]⟩, timer := some 9600000 }

/-- A link that awaits its length byte. -/
def atLength : State := State.reset.setLink { Link.reset with rx := .awaitLength, timer := some 9600000 }

/-- A closed link, the reply to QUERY LOCK on its way, six bytes discarded. -/
def inReply : State := State.reset.setLink { Link.reset with rx := .closed, closedKind := 0x1A, closedCount := 6, reply := [0xD5] }

/-- The reply to RESTART on its way. -/
def inRestart : State := State.reset.setLink { Link.reset with
  rate := .b115200, rx := .closed, closedKind := 0x02, reply := [0xD5], restartAwaits := true }

/-- Table 10-C: the overlap. -/
theorem test_reply_end : (after .replyEnd inReply).link.rx = .hunting ∧
    queue 3 (after .replyEnd inReply) = [⟨.overlap, 0, 0x1A, 6⟩] := by decide
theorem test_closed_byte : (after (.closedByte 0xD4) { inReply with link := { inReply.link with closedCount := 0 } }).link.closedCount = 1 ∧
    (after (.closedByte 0xD4) { inReply with link := { inReply.link with closedCount := 0 } }).reports.latched = 69 := by decide

/-- Table 10-C: the timeout after 0xD4, 0x03, 0x16, 25 ms after the last byte and across the wrap of the counter. -/
theorem test_frame_timeout : queue 3 (after .frameTimeout (inFrame.setStamp 9600000)) = [⟨.frameTimeout, 0, 2, 2⟩] ∧
    (after .frameTimeout (inFrame.setStamp 9600000)).link = Link.reset ∧
    (after .frameTimeout (inFrame.setStamp 0xFFFFFF)).link = Link.reset := by decide

/-- R170: no expiry right after the byte, and none until 25 ms have gone. -/
theorem test_frame_timeout_early : after .frameTimeout inFrame = inFrame ∧
    after .frameTimeout (inFrame.setStamp 9599999) = inFrame.setStamp 9599999 ∧
    after .frameTimeout State.reset = State.reset := by decide
theorem test_bad_length : answer (.badLength 97) atLength = [0, 1] ∧
    queue 3 (after (.badLength 97) atLength) = [⟨.badFrame, 0, 1, 97⟩] := by decide
theorem test_bad_check : answer (.badCheck 0) atCheck = [0x1A, 1] ∧
    queue 3 (after (.badCheck 0) atCheck) = [⟨.badFrame, 0, 2, 0x1A01⟩] := by decide
theorem test_good_check_is_no_bad_check : after (.badCheck 0xE5) atCheck = atCheck := by decide
theorem test_unknown_request : answer (.unknownRequest 0x03 [7]) State.reset = [0x03, 2] := by decide
theorem test_wrong_length : answer (.restart [1]) State.reset = [0x02, 3] := by decide
theorem test_restart : answer (.restart []) State.reset = [0x02, 0] ∧
    (after (.restart []) State.reset).link.restartAwaits = true := by decide
theorem test_restart_takes_effect :
    after .restartTakesEffect inRestart = State.reset.setLink { Link.reset with rate := .b115200 } := by decide
theorem test_power_on : (after (.powerOn true false) inReply).link = { Link.reset with rate := .b38400 } := by decide
theorem test_request_while_closed : (after (.setAdvance [0, 1]) inReply).link.closedCount = 12 ∧
    (after (.setAdvance [0, 1]) inReply).engine.a = 0 := by decide

/-! ## Settings and queries of the lock half -/

/-- Table 2-A. -/
theorem test_nominal_increments : nominalIncrement .s625 320 = 894784853 ∧ nominalIncrement .s625 768 = 2147483648 ∧
    nominalIncrement .s525 768 = 2162530552 ∧ nominalIncrement .s625 1400 = 3914683733 ∧
    nominalIncrement .s525 1400 = 3942112986 := by decide

theorem test_set_standard : answer (.setStandard [1]) State.reset = [0x10, 0, 1] ∧
    (after (.setStandard [1]) State.reset).engine.k = 2162530552 ∧
    (after (.setStandard [1]) State.reset).classifier.lavg = 24405 := by decide
theorem test_set_raster : answer (.setRaster [0x05, 0xDC, 1, 16]) State.reset = [0x11, 0, 0x05, 0x78, 1, 15] ∧
    (after (.setRaster [0x05, 0xDC, 1, 16]) State.reset).timing.restartPending = true := by decide
theorem test_set_profile : (after (.setProfile [1]) State.reset).engine.profile = .tape := by decide
theorem test_set_gains : answer (.setGains [0, 1, 16, 24]) State.reset = [0x13, 0, 15, 23] ∧
    (after (.setGains [0, 1, 16, 24]) State.reset).engine.gains.broadcastLocked = ⟨15, 23⟩ := by decide
theorem test_set_lock_windows : answer (.setLockWindows [2, 0, 1, 0, 0, 0, 1, 0]) State.reset =
    [0x14, 0, 2, 0, 2, 0, 0, 1, 0, 255] := by decide
theorem test_set_qualify : answer (.setQualify [0, 0, 0]) State.reset = [0x15, 0, 1, 0, 0] := by decide
theorem test_set_advance : answer (.setAdvance [0x80, 0x00]) State.reset = [0x16, 0, 0xE0, 0x00] ∧
    (after (.setAdvance [0xFF, 0xFF]) State.reset).engine.a = -1 := by decide
theorem test_set_internal : answer (.setInternal []) State.reset = [0x17, 0] ∧
    queue 0 (after (.setInternal []) State.reset) = [⟨.stateChange, 0, 4, 0⟩] := by decide
theorem test_release_internal : answer (.releaseInternal []) State.reset = [0x18, 4] ∧
    (after (.releaseInternal []) { State.reset with engine := { Engine.reset with lock := .internal } }).engine.lock = .free := by
  decide
theorem test_set_field_count : (after (.setFieldCount [0, 0x13, 0x88]) State.reset).timing.load = some 5000 ∧
    (after (.setFieldCount [0, 0x13, 0x88]) State.reset).timing.count = 0 := by decide
theorem test_query_lock : answer (.queryLock []) State.reset =
    [0x1A, 0, 0, 0x60, 0x00, 0, 0, 0, 0, 0, 0, 0, 0, 0, 0, 0, 1, 0] ++
    [0x80, 0, 0, 0, 0x02, 0, 0, 0, 0x80, 0, 0, 0, 0, 0, 0, 0, 0, 0, 0, 0, 0, 0, 0, 2, 6, 0] ++
    [0, 0, 0, 0, 0, 0, 0, 0, 0, 10, 0x01, 0xF4, 0, 48, 2, 0, 0, 128, 24, 1] := by decide
theorem test_query_timing : answer (.queryTiming []) State.reset =
    [0x1B, 0, 0, 3, 0, 0, 0, 1, 1, 0, 1, 0, 0, 0, 0, 0, 0, 0, 0, 0, 0, 0, 0] := by decide
theorem test_set_sync_windows : answer (.setSyncWindows [0, 4, 4, 0, 64, 255]) State.reset =
    [0x1C, 0, 0, 8, 3, 0, 63, 31] := by decide
theorem test_set_store_delay : answer (.setStoreDelay [1]) State.reset = [0x20, 0, 2] := by decide
theorem test_set_video_trim : answer (.setVideoTrim [0x80]) State.reset = [0x21, 0, 0xE0] := by decide
theorem test_query_store : answer (.queryStore []) State.reset =
    [0x22, 0, 0, 3, 0, 0, 0, 255, 1, 0] ++ List.replicate 48 0 := by decide

/-! ## The reference input (spec/01) -/

/-- 1.3.03: a candidate at 4,950,650, and the second pulse of the pair in progress. -/
def pairComing : State := (State.reset.setPulse (.inProgress 4975226)).setClassifier
  { Classifier.reset with candidate := some 4950650 }

/-- 1.3.03: TRACK on the pair. -/
def tracked (x : Stamp) : State := (State.reset.setPulse (.inProgress x)).setClassifier
  { Classifier.reset with
    tracking := .track, anchor := some ⟨4975226, true, false⟩, prediction := some ⟨4999802, 48, 384⟩, refAbsent := false }

/-- 1.3.05: at the head switch. -/
def atSwitch (x : Stamp) : State := (tracked x).setClassifier
  { (tracked x).classifier with
    lavg := 24588, anchor := some ⟨5000000, true, false⟩, prediction := some ⟨5024588, 48, 384⟩ }

theorem test_leading_edge : (after (.pulseLeadingEdge 77) State.reset).pulse = .inProgress 77 := by decide
theorem test_first_pulse : (after (.syncPulse 84) { State.reset with pulse := .inProgress 9 }).classifier.candidate = some 9 := by
  decide
theorem test_pair_enters_track : (after (.syncPulse 113) pairComing).classifier =
    { (tracked 0).classifier with candidate := none } ∧
    queue 0 (after (.syncPulse 113) pairComing) = [⟨.refFound, 0, 0, 0⟩] := by decide
theorem test_candidate_expiry : (after .candidateExpiry pairComing).classifier.candidate = none := by decide
theorem test_overlong_in_search : (after .overlongPulse pairComing).classifier.candidate = none ∧
    (after .overlongPulse pairComing).pulse = .handled := by decide

/-- 1.3.04: the average and the prediction after an ordinary line start. -/
theorem test_ordinary_line_start : (after (.syncPulse 113) (tracked 5000000)).classifier.lavg = 24588 ∧
    (after (.syncPulse 113) (tracked 5000000)).classifier.prediction = some ⟨5024588, 48, 384⟩ := by decide

/-- 1.3.05: a STEP line start. -/
theorem test_step_line_start : (after (.syncPulse 113) (atSwitch 5025740)).classifier.lavg = 24588 ∧
    (after (.syncPulse 113) (atSwitch 5025740)).classifier.anchor = some ⟨5025740, true, true⟩ ∧
    (after (.syncPulse 113) (atSwitch 5025740)).classifier.prediction = some ⟨5050328, 48, 384⟩ := by decide

/-- Table 1-D: a synthetic line start at the prediction. -/
theorem test_window_close : (after .wideWindowClose { atSwitch 0 with pulse := .idle }).classifier.anchor = some ⟨5024588, false, false⟩ ∧
    (after .wideWindowClose { atSwitch 0 with pulse := .idle }).classifier.synthCount = 1 ∧
    (after .wideWindowClose { atSwitch 0 with pulse := .idle }).classifier.badCount = 1 := by decide

/-- 1.3.07: the twelfth in a row is a loss. -/
theorem test_loss : (after .wideWindowClose { atSwitch 0 with
    pulse := .idle, classifier := { (atSwitch 0).classifier with synthCount := 11 } }).classifier.tracking = .search := by decide

/-- Table 1-E: the mid-line BROAD pulse after (1, 313), the window open and the fields before it good. -/
def fieldEnd : State := (tracked (4975226 + 12288)).setClassifier
  { (tracked 0).classifier with midLine := true, numbering := .numbered ⟨.one, 313⟩, previous := some .two }

theorem test_field_end : (after (.syncPulse 600) fieldEnd).classifier.verdict = some ⟨.one, 313, true⟩ ∧
    (after (.syncPulse 600) fieldEnd).classifier.numbering = .awaiting .two ∧
    (after (.syncPulse 600) fieldEnd).engine.qual = 1 := by decide

/-- Table 1-F: the fourth verdict in a row on a field of the other standard. -/
theorem test_wrong_standard : ({ Classifier.reset with wrongRun := 3 }.testStandard .s625 ⟨.two, 262⟩).1.mismatch = true ∧
    ({ Classifier.reset with wrongRun := 3 }.testStandard .s625 ⟨.two, 262⟩).2 = [⟨0, .standardMismatch, 0, 262⟩] := by decide

/-! ## The loop (spec/02) -/

/-- Table 2-B, the last two rows: the sign reverses across the half line. -/
theorem test_half_line : foldError 24576 12288 = 4095 ∧ foldError 24576 12289 = -4095 := by decide

/-- Table 2-B, the second row: the generated line start before t is chosen, and read exactly. -/
theorem test_measure_from : ({ Engine.reset with history := [16776000, 16751424, 16726848] }.measureFrom 16775900) = some 16751424 ∧
    foldError 24576 24476 = -100 := by decide

/-- Table 2-F: one update in LOCKED. -/
theorem test_update : ({ Engine.reset with lock := .locked }.update 100).i = 6400 ∧
    ({ Engine.reset with lock := .locked }.update 100).k = 2147067648 := by decide

/-- 2.4.04: the clamp in ACQUIRE. -/
theorem test_clamp : ({ Engine.reset with lock := .acquire }.update 4095).k = 2113929216 ∧
    { Engine.reset with lock := .acquire }.limitPosts 4095 = [⟨0, .atLimitEnter, 2, 4095⟩] := by decide

/-- Table 2-G and Table 2-D. -/
theorem test_rounding : (roundedShift (-9 * 65536) 20, roundedShift (7 * 65536) 20, roundedShift (8 * 65536) 20) = (-1, 0, 1) ∧
    (decayOffset 1152, decayOffset 1134, decayOffset 31) = (1134, 1116, 30) := by decide

/-! ## The clock (spec/03) -/

/-- 2.1.03: the tick of a generated line start. -/
def lineTick : State := { State.reset with stamp := 7340032, timing := { Timing.reset with acc := 3000000000, pixel := 767 } }

theorem test_line_stamp : lineTick.tickKind = .lineStart ∧ lineTick.lineStamp = 7340026 := by decide
theorem test_line_start : (after (.generatedLineStart 0 ⟨Sample.black, []⟩) lineTick).engine.history = [7340026] ∧
    (after (.generatedLineStart 0 ⟨Sample.black, []⟩) lineTick).timing.key = ⟨.one, 2⟩ ∧
    (after (.generatedLineStart 0 ⟨Sample.black, []⟩) lineTick).timing.acc = 852516352#32 := by decide

/-- A tick that does not carry, and one that carries into a pixel. -/
theorem test_measurement_tick : after (.measurementTick Sample.black) State.reset =
    { State.reset with stamp := 16, timing := { Timing.reset with acc := 2147483648#32 } } := by decide

def pixelTick : State := { State.reset with timing := { Timing.reset with acc := 2147483648#32 } }

theorem test_pixel_clock : (after (.pixelClock 3 Sample.black) pixelTick).timing.pixel = 1 ∧
    (after (.pixelClock 3 Sample.black) pixelTick).mixer.output.pixel = Sample.black := by decide
theorem test_other_tick_is_none : after (.pixelClock 3 Sample.black) State.reset = State.reset := by decide

def releaseTick : State := { pixelTick with timing := { pixelTick.timing with lineSync := some 1 } }

theorem test_line_sync_release : (after (.lineSyncRelease 0 Sample.black) releaseTick).timing.lineSync = none := by decide

/-- The carry to pixel 384 of (1, 313). -/
def midLineTick : State := { pixelTick with timing := { pixelTick.timing with pixel := 383, key := ⟨.one, 313⟩ } }

theorem test_mid_line_field_start : (after (.midLineFieldStart 0 ⟨Sample.black, []⟩) midLineTick).timing.parity = .two ∧
    (after (.midLineFieldStart 0 ⟨Sample.black, []⟩) midLineTick).timing.key = ⟨.one, 313⟩ ∧
    (after (.midLineFieldStart 0 ⟨Sample.black, []⟩) midLineTick).timing.count = 1 := by decide

/-- Table 3-D: the due line start, its natural key (2, 102). -/
def jamTick : State := { lineTick with
  engine := { Engine.reset with lock := .acquire }
  timing := { lineTick.timing with key := ⟨.two, 101⟩, parity := .two, jam := some ⟨.one, 3, 1⟩ } }

theorem test_jam : jamTick.tickKind = .jamCheck ∧ jamTick.timing.jamDue = some ⟨.one, 3, 1⟩ ∧
    jamTick.timing.naturalKey = ⟨.two, 102⟩ ∧ (jamTick.timing.startField .one .jam).frameRestart = true ∧
    (jamTick.timing.startField .one .jam).startLine.key = ⟨.one, 1⟩ := by decide

/-- 3.4.04, 3.4.08, 4.6.03: the signed shifts. -/
theorem test_jam_shifts : jamShift .s625 .one ⟨.two, 102⟩ = 211 ∧ jamShift .s625 .two ⟨.one, 203⟩ = 111 ∧
    jamShift .s625 .one ⟨.two, 153⟩ = 160 := by decide

/-- Table 3-E: the match, with the lock run above N_lock. -/
def matchTick : State := { midLineTick with
  engine := { Engine.reset with lock := .acquire, lockRun := 200 }
  timing := { midLineTick.timing with jam := some ⟨.two, 3, 1⟩ } }

theorem test_match : matchTick.tickKind = .jamCheck ∧ matchTick.timing.jamDue = some ⟨.two, 3, 1⟩ ∧
    matchTick.timing.naturalKey = ⟨.two, 1⟩ ∧ (matchTick.setMatch true).testLocked.1.engine.lock = .locked ∧
    (matchTick.setMatch true).testLocked.2 = [⟨0, .stateChange, 2, 1⟩] := by decide

def restartTick : State := { pixelTick with
  timing := { pixelTick.timing with pixel := 500, key := ⟨.two, 40⟩, parity := .two, restartPending := true } }

theorem test_restart_carry : (after (.timingRestartCarry 0 ⟨Sample.black, []⟩) restartTick).timing.key = ⟨.one, 1⟩ ∧
    (after (.timingRestartCarry 0 ⟨Sample.black, []⟩) restartTick).timing.pixel = 0 ∧
    (after (.timingRestartCarry 0 ⟨Sample.black, []⟩) restartTick).timing.fieldSync = some 3 := by decide

/-! ## The line store (spec/04) -/

/-- A FILLED slot with a key and a write sequence number. -/
def filledSlot (k : Key) (seq : BitVec 16) : Slot := ⟨.filled, k, seq, false, false, []⟩

/-- Table 4-D, the row of (1, 313): SHOWN (1, 312), FILLED (2, 1) to (2, 3). -/
def shortField : State := { State.reset with
  engine := { Engine.reset with lock := .locked, unlocked := false }
  store := { Store.reset with
    active := true, seq := 56, shown := some 1,
    slots := ((((Vector.replicate 8 Slot.cleared).set 0 (filledSlot ⟨.two, 3⟩ 55)).set 1
      { filledSlot ⟨.one, 312⟩ 52 with role := .shown }).set 2 (filledSlot ⟨.two, 1⟩ 53)).set 3 (filledSlot ⟨.two, 2⟩ 54) } }

theorem test_repeat : queue 1 (shortField.storeRead ⟨.one, 313⟩) = [⟨.repeated, 0, 1, 1337⟩] ∧
    (shortField.storeRead ⟨.one, 313⟩).store.slots = shortField.store.slots := by decide
theorem test_write_takes_slot_four : ((shortField.storeWrite ⟨0, some ⟨.two, 4⟩, false, none⟩).store.slots[4]).key = ⟨.two, 4⟩ := by
  decide
theorem test_found : (shortField.storeRead ⟨.two, 1⟩).store.shown = some 2 ∧
    (shortField.storeRead ⟨.two, 1⟩).store.lineOne = some .hit ∧ queue 1 (shortField.storeRead ⟨.two, 1⟩) = [] := by decide

/-- Sample 0 comes 3,584 fu after the line's stamp, or at the first multiple of 32 fu after that. -/
theorem test_sample_instants : sampleDue 0 3584 = some 0 ∧ sampleDue 1 3584 = none ∧ sampleDue 1 3616 = some 0 ∧
    sampleDue 0 3600 = none := by decide

/-- The horizontal mapping at the two edges of a line of 768 pixels. -/
theorem test_mapping : sampleOfPixel .s625 768 0 112 = 0 ∧ sampleOfPixel .s625 768 0 111 = -1 ∧
    sampleOfPixel .s625 768 0 751 = 639 := by decide

/-! ## The mixer (spec/05) -/

/-- Table 5-D. -/
theorem test_mix : (mixReplace 180 200 128, mixReplace 200 100 128, mixReplace 200 100 3, mixReplace 100 200 3) = (190, 150, 199, 101) ∧
    (mixAdd 180 200 128, mixAdd 60 120 64, mixReplace 128 90 128) = (272, 86, 109) := by decide
theorem test_limit : limitSample (272, 128, 128) = (⟨235, 128, 128⟩, true) ∧ limitSample (235, 16, 240) = (⟨235, 16, 240⟩, false) := by
  decide

/-- A pixel that waits for its index. -/
def waiting (k : Key) (x : Nat) (video : Sample) (before : Bool) : Pixel :=
  ⟨k, x, 0, false, Vector.replicate 8 Window.cleared, Vector.replicate 4 0, video, before⟩

/-- Table 5-B: with latency 3 the index sampled at pixel 0 belongs to the third pixel before, formed with the line before. -/
theorem test_latency : ({ Mixer.reset with
    prevCtx := { LineContext.reset with source := .store }
    pipeline := [waiting ⟨.one, 4⟩ 765 ⟨90, 90, 90⟩ true, waiting ⟨.one, 4⟩ 766 ⟨91, 90, 90⟩ true,
      waiting ⟨.one, 4⟩ 767 ⟨92, 90, 90⟩ true, waiting ⟨.one, 5⟩ 0 ⟨93, 90, 90⟩ false] }.pair 3 0).1.output.pixel =
    ⟨90, 90, 90⟩ := by decide

/-- Table 5-E: ON, OFF and ON again. -/
theorem test_keyer_writes : (Mixer.reset.writeKeyer true).keyerNext = some true ∧
    ((Mixer.reset.writeKeyer true).writeKeyer false).keyerNext = none := by decide
theorem test_keyer : answer (.keyer [1]) State.reset = [0x33, 0, 0, 1] ∧ answer (.keyer [0]) State.reset = [0x33, 0, 0, 255] := by
  decide
theorem test_set_colour : answer (.setColour [15, 0, 255, 128, 1]) State.reset = [0x30, 0, 15, 16, 240, 128, 1] ∧
    (after (.setColour [15, 0, 255, 128, 1]) State.reset).mixer.edits = true := by decide
theorem test_set_matte : answer (.setMatte [16, 128, 128]) State.reset = [0x31, 0, 16, 128, 128] ∧
    (after (.setMatte [16, 128, 128]) State.reset).mixer.edits = false := by decide
theorem test_set_loss_policy : (after (.setLossPolicy [1]) State.reset).mixer.policy = .full := by decide
theorem test_query_mixer : (answer (.queryMixer []) State.reset).drop 66 = [16, 128, 128, 2, 0, 0, 0, 255, 0, 0, 0, 0, 0, 0, 0] := by
  decide

/-! ## Banks and fades (spec/06) -/

/-- Table 6-C: the caption of bank B. -/
def caption : List Byte := [1, 0, 230, 1, 24, 0, 80, 2, 178, 0, 0, 1, 0]

theorem test_window_set : answer (.windowSet (1 :: 0 :: caption)) State.reset = 0x34 :: 0 :: caption ∧
    answer (.windowSet (0 :: 0 :: caption)) State.reset = [0x34, 4] := by decide
/-- A level value of FIXED is clamped, one of GEN above 3 is refused; so are a window and a bank that do not exist. -/
theorem test_window_refused : (answer (.windowSet [1, 0, 1, 0, 230, 1, 24, 0, 80, 2, 178, 0, 0, 1, 1]) State.reset).take 2 = [0x34, 0] ∧
    answer (.windowSet [1, 0, 1, 0, 230, 1, 24, 0, 80, 2, 178, 0, 1, 0, 4]) State.reset = [0x34, 3] ∧
    answer (.windowSet (1 :: 8 :: caption)) State.reset = [0x34, 3] ∧ answer (.windowClear [2, 0]) State.reset = [0x35, 3] := by decide
theorem test_window_clear : answer (.windowClear [1, 7]) State.reset = [0x35, 0, 0, 0, 1, 1, 57, 0, 0, 7, 255, 0, 0, 1, 0] := by decide

/-- A copying swap pending. -/
def swapping : State := { State.reset with banks := { Banks.reset with swap := some true } }

theorem test_bank_swap : answer (.bankSwap [1]) State.reset = [0x36, 0, 0, 1] ∧ answer (.bankSwap [0]) swapping = [0x36, 6] := by decide
theorem test_perform : swapping.banks.perform = ({ Banks.reset with live := .b }, [⟨2, .bankLive, 1, 1⟩]) := by decide
theorem test_query_bank_refused : answer (.queryBank [2]) State.reset = [0x37, 3] ∧ 2 ≤ (2 : Byte).toNat := by decide
theorem test_query_bank : (answer (.queryBank [1]) swapping).take 7 = [0x37, 0, 0, 1, 1, 0, 0] := by decide

/-- Tables 6-E, 6-F and 6-G. -/
theorem test_stop_step : Fade.endWalk ⟨true, .stop, 64239, 1311, 0, 65536, false⟩ = (⟨false, .stop, 65536, 1311, 0, 65536, false⟩, true) := by
  decide
/-- R118: a marked generator and an IDLE one make no step. -/
theorem test_no_step : Fade.endWalk ⟨true, .stop, 5, 1, 0, 9, true⟩ = (⟨true, .stop, 5, 1, 0, 9, false⟩, false) ∧
    Fade.endWalk ⟨false, .stop, 5, 1, 0, 9, false⟩ = (⟨false, .stop, 5, 1, 0, 9, false⟩, false) := by decide
theorem test_wrap_steps : (Fade.stepWrap ⟨true, .wrap, 1900, 250, 1000, 1999, false⟩).level = 1150 ∧
    (Fade.stepWrap ⟨true, .wrap, 1050, -250, 1000, 1999, false⟩).level = 1800 := by decide
theorem test_bounce_steps : Fade.stepBounce ⟨true, .bounce, 50000, 20000, 0, 65536, false⟩ = ⟨true, .bounce, 61072, -20000, 0, 65536, false⟩ ∧
    Fade.stepBounce ⟨true, .bounce, 1072, -20000, 0, 65536, false⟩ = ⟨true, .bounce, 18928, 20000, 0, 65536, false⟩ := by decide

theorem test_fade_load : answer (.fadeLoad [1, 1, 0, 0, 0xF0, 0, 0, 0, 0, 1, 0, 0, 0]) State.reset =
    [0x40, 0, 1, 0, 1, 0, 0, 1, 0, 0xF0, 0, 0, 0, 0, 1, 0, 0] := by decide
theorem test_fade_load_refused : answer (.fadeLoad [1, 0, 0, 0, 0, 10, 0, 0, 0, 0, 0, 9, 1]) State.reset = [0x40, 3] := by decide
theorem test_fade_hold : (after (.fadeHold [3]) { State.reset with fades := Vector.replicate 4 { Fade.reset with run := true } }).fades[3].run =
    false := by decide
theorem test_fade_resume : (after (.fadeResume [3]) State.reset).fades[3].run = true := by decide
theorem test_query_fade : answer (.queryFade [4]) State.reset = [0x43, 3] ∧
    answer (.queryFade [0]) State.reset = [0x43, 0, 0, 0, 0, 0, 0, 0, 0, 0, 0, 0, 0, 0, 1, 0, 0] := by decide

/-! ## Cues (spec/07, spec/08) -/

/-- A MARK cue's content: T 1,000, M all ones, ONCE, route CUE, tag 257. -/
def markContent : List Byte := [0, 3, 0xE8, 0xFF, 0xFF, 0xFF, 0, 2, 1, 1, 5, 0, 0, 0, 0, 0, 0, 0, 0, 0, 0, 0, 0, 0]

/-- A pool: 0 and 2 on ARMED, 1 on HELD, 3 on DONE and pending, 4 to 63 on FREE. -/
def somePool : CuePool := { CuePool.reset with
  free := (List.finRange 64).drop 4, armed := [0, 2], held := [1], done := [3],
  records := CuePool.reset.records.set 3 ⟨Cue.cleared.content, true⟩ }

def withPool : State := State.reset.setCues somePool

theorem test_cue_new : answer (.cueNew (1 :: markContent)) State.reset = 0x50 :: 0 :: 0 :: markContent ∧
    (after (.cueNew (1 :: markContent)) State.reset).cues.armed = [0] := by decide
theorem test_cue_set : answer (.cueSet (0 :: markContent)) withPool = [0x51, 4] ∧
    answer (.cueSet (3 :: markContent)) withPool = 0x51 :: 0 :: markContent := by decide
theorem test_cue_move : answer (.cueMove [2, 2, 0]) withPool = [0x52, 0, 2, 255, 1] ∧
    (after (.cueMove [2, 2, 0]) withPool).cues.held = [2, 1] := by decide
theorem test_cue_place : answer (.cuePlace [3, 0]) withPool = [0x53, 0, 1, 255, 0] ∧
    (after (.cuePlace [3, 0]) withPool).cues.armed = [3, 0, 2] := by decide
theorem test_cue_discard : answer (.cueDiscard [0]) withPool = [0x54, 0, 61] := by decide
theorem test_cue_read : (answer (.cueRead [2]) withPool).take 5 = [0x55, 0, 1, 0, 255] := by decide
theorem test_cue_list : answer (.cueList [1]) withPool = [0x56, 0, 2, 0, 2] := by decide
theorem test_cue_collect : answer (.cueCollect []) withPool = [0x57, 0, 3, 0, 0, 3, 0] ∧
    answer (.cueCollect []) State.reset = [0x57, 7] := by decide

/-- 8.5.02: masks, and the count 1,000 against T 8 and M 15. -/
theorem test_fires : CueContent.fires ⟨8, 15, true, some 2, 512, .mark⟩ 1000 = true ∧
    CueContent.fires ⟨8, 15, true, some 2, 512, .mark⟩ 1001 = false ∧ CueContent.fires ⟨0, 0, true, none, 5, .mark⟩ 77 = true := by
  decide

/-- Table 8-D, the visit of cue 9: a swap skipped, and the cue fired all the same. -/
theorem test_skipped_swap : (swapping.act 9 (.swap false)).2 = [⟨2, .cueSkipped, 9, 256⟩] := by decide

/-- The tick of a mid-line field start with a SWAP cue on ARMED that fires at every count. -/
def swapCueTick : State := midLineTick.setCues { CuePool.reset with
  free := (List.finRange 64).drop 1, armed := [0],
  records := CuePool.reset.records.set 0 ⟨⟨0, 0, true, none, 0, .swap false⟩, false⟩ }

/-- R108, R143: a BANK SWAP that executes between the performance and the walk is answered OK, and the walk's SWAP is skipped;
without it the walk's SWAP is accepted, and after the walk the request is refused BUSY. -/
theorem test_swap_between : (after (.midLineFieldStart 0 ⟨Sample.black, [0x36, 1]⟩) swapCueTick).banks.swap = some true ∧
    answer (.midLineFieldStart 0 ⟨Sample.black, [0x36, 1]⟩) swapCueTick = [0x36, 0, 0, 1] ∧
    queue 2 (after (.midLineFieldStart 0 ⟨Sample.black, [0x36, 1]⟩) swapCueTick) = [⟨.cueSkipped, 1, 0, 256⟩] := by decide
theorem test_swap_after : (after (.midLineFieldStart 0 ⟨Sample.black, []⟩) swapCueTick).banks.swap = some false ∧
    answer (.bankSwap [1]) (after (.midLineFieldStart 0 ⟨Sample.black, []⟩) swapCueTick) = [0x36, 6] := by decide

/-- With a swap pending before the field start, the request between finds it performed. -/
theorem test_swap_between_performed :
    let s := ((swapCueTick.setBanks swapping.banks).begun).takeBetween [0x36, 0]
    s.banks.live = .b ∧ s.banks.swap = some false ∧ s.link.reply = replyFrame [0x36, 0, 1, 1] := by decide

/-- R150: the unit that executes the request between performed before the walk, so BANK_LIVE stands before the CUE_SKIPPED that
the BANK SWAP caused, and KEYER_CHANGED before what the walk posts after a KEYER. -/
theorem test_swap_posts_before_walk : queue 2 (after (.midLineFieldStart 0 ⟨Sample.black, [0x36, 1]⟩)
    (swapCueTick.setBanks swapping.banks)) = [⟨.bankLive, 1, 1, 1⟩, ⟨.cueSkipped, 1, 0, 256⟩] := by decide
theorem test_keyer_posts_before_walk :
    let s := swapCueTick.setMixer { Mixer.reset with keyerNext := some true }
    let i : CueContent := ⟨0, 0, true, some 2, 7, .mark⟩
    queue 2 (after (.midLineFieldStart 0 ⟨Sample.black, [0x33, 1]⟩)
      (s.setCues (s.cues.setRecord 0 ⟨i, false⟩))) = [⟨.keyerChanged, 1, 1, 0⟩, ⟨.cueFired, 1, 0, 7⟩] := by decide
theorem test_orderedBy : midLineTick.orderedBy [0x37, 0] = some .bank ∧ midLineTick.orderedBy [0x38] = some .mixer ∧
    midLineTick.orderedBy [0x43, 0] = none ∧ midLineTick.orderedBy [] = none ∧
    (midLineTick.setLink { Link.reset with rx := .closed }).orderedBy [0x36, 1] = none := by decide

/-- 8.5.07: an ARM action that finds its target on DONE. -/
theorem test_skipped_arm : (withPool.act 20 (.arm 3)).2 = [⟨2, .cueSkipped, 20, 515⟩] ∧
    (withPool.act 20 (.arm 1)).1.cues.armed = [0, 2, 1] := by decide

/-- A walk over a ONCE cue that matches, one that does not and a REPEAT cue that does. -/
def walking : State := State.reset.setCues { CuePool.reset with
  free := (List.finRange 64).drop 3, armed := [0, 1, 2],
  records := (CuePool.reset.records.set 1 ⟨⟨7, 0xFFFFFF, false, some 2, 0, .mark⟩, false⟩).set 2
    ⟨⟨0, 0, true, none, 5, .mark⟩, false⟩ }

theorem test_walk : (walking.walk 9).1.cues.armed = [1, 2] ∧ (walking.walk 9).1.cues.done = [0] ∧
    (walking.walk 9).1.cues.pendingSet = [0, 2] ∧ (walking.walk 9).2 = [⟨2, .cueFired, 0, 0⟩] := by decide

/-! ## Reports and conditions (spec/09) -/

/-- One report in the LOCK queue, the queue and REF_ABSENT enabled. -/
def reported : State := State.reset.setReports { ReportUnit.reset with
  queues := ReportUnit.reset.queues.set 0 [⟨.stateChange, 7, 3, 2⟩], condEnables := 1, queueEnables := 1, attn := true }

theorem test_report_peek : answer (.reportPeek [0]) reported = [0x60, 0, 1, 0, 0, 7, 3, 0, 2, 1] ∧
    queue 0 (after (.reportPeek [0]) reported) = queue 0 reported := by decide
theorem test_report_take : answer (.reportTake [0]) reported = [0x61, 0, 1, 0, 0, 7, 3, 0, 2, 0] ∧
    queue 0 (after (.reportTake [0]) reported) = [] := by decide
theorem test_report_flush : answer (.reportFlush [0]) reported = [0x62, 0, 1] ∧ answer (.reportFlush [4]) reported = [0x62, 3] := by decide

/-- Table 9-D: both causes hold, so the mask clears nothing that lasts. -/
theorem test_conditions : answer (.conditions [0, 5]) reported = [0x63, 0, 0, 5, 5] ∧
    (after (.conditions [0, 5]) reported).reports.latched = 5 ∧ (after (.conditions [0, 5]) reported).reports.attn = true := by decide
theorem test_set_attention : answer (.setAttention [0xF8, 0, 0xF0]) reported = [0x64, 0, 0, 0, 0] ∧
    (after (.setAttention [0xF8, 0, 0xF0]) reported).reports.attn = false := by decide

/-! ## The queue -/

theorem test_idle : step State.reset = .next State.reset := rfl
theorem test_front_first : step { State.reset with pending := [.setProfile [1], .setProfile [0]] } =
    exec (.setProfile [1]) { State.reset with pending := [.setProfile [0]] } := rfl
theorem test_no_word_spells_a_command : decodeTableWord 8 0 = none := rfl

/-! ## Hypotheses that are met

For each statement with hypotheses, a state and operands that meet all of them, clause by clause at the bounds of a range. -/

/-- Every request of at most 95 parameter bytes is taken by a receiver in HUNTING: the hypothesis of every statement about a
request, at any operands. -/
theorem test_hyp_takes (kind : Byte) (ps : List Byte) (h : ps.length ≤ 95) (s : State) (hr : s.link.rx = .hunting) :
    s.takes kind ps := ⟨h, by unfold Link.completes; rw [hr]⟩

/-- A part at work: LOCKED in TRACK, a slot SHOWN and two FILLED, a swap pending, a fade running, cues on every list, a
report in an enabled queue, a frame half received, a measurement tick to come. -/
def alive : State := { shortField with
  classifier := { (tracked 0).classifier with numbering := .numbered ⟨.one, 313⟩, synthCount := 63, badCount := 255 }
  engine := { shortField.engine with i := -52000, e := 4095, history := [3, 2, 1] }
  mixer := { Mixer.reset with recorded := .locked, keyerNext := some true }
  banks := swapping.banks
  fades := Fade.reset |> fun f => (Vector.replicate 4 f).set 1 ⟨true, .bounce, 50000, 20000, 0, 65536, false⟩
  cues := somePool
  reports := reported.reports
  link := inFrame.link
  pending := [.measurementTick Sample.black] }

theorem test_hyp_step : ∃ t : State, step alive = .next t := ⟨_, rfl⟩

theorem test_hyp_reportsOk (s : State) (hs : s.causes = 5#11 ∨ s.causes = 0#11) (hr : s.reports = reported.reports) :
    s.reportsOk := by
  unfold State.reportsOk
  rw [hr]
  refine ⟨by decide, fun n h => ?_, ⟨fun _ => Or.inl ⟨0, by decide⟩, fun _ => rfl⟩⟩
  rcases hs with e | e <;> rw [e] at h
  · exact h
  · simp at h

theorem test_hyp_alive_reportsOk : alive.reportsOk ∧ reported.reportsOk :=
  ⟨test_hyp_reportsOk _ (Or.inr (by decide)) rfl, test_hyp_reportsOk _ (Or.inl (by decide)) rfl⟩
theorem test_hyp_alive_lockOk : alive.lockOk := by unfold State.lockOk; decide
theorem test_hyp_alive_trackingOk : alive.trackingOk := by unfold State.trackingOk; decide
theorem test_hyp_alive_classifierOk : alive.classifierOk := by
  unfold State.classifierOk
  refine ⟨by decide, by decide, by decide, by decide, by decide, fun k h => ?_⟩
  cases h
  decide
theorem test_hyp_alive_slotsOk : alive.store.slotsOk := by unfold Store.slotsOk; decide
theorem test_hyp_alive_loopOk : alive.loopOk := by unfold State.loopOk; decide
theorem test_hyp_alive_positionOk : alive.positionOk := by unfold State.positionOk; decide
theorem test_hyp_alive_mixerOk : alive.mixerOk := by unfold State.mixerOk Mixer.ok LineContext.ok legal; decide
theorem test_hyp_alive_banksOk : alive.banks.ok := by
  intro n i
  have h : (alive.banks.windows n)[i] = Window.cleared := by cases n <;> revert i <;> decide
  rw [h]
  exact ⟨by decide, by decide, by decide, by decide, show (256 : Nat) ≤ 256 by decide⟩
theorem test_hyp_alive_fadesOk : alive.fadesOk := by
  refine ⟨by unfold Fade.ok fadeRange; decide, fun i => ?_⟩
  have h : (alive.cues.records[i]).content.action = .mark := by revert i; decide
  rw [h]
  trivial
theorem test_hyp_alive_cuesOk : alive.cues.ok := by unfold CuePool.ok; exact ⟨by decide, by decide⟩
theorem test_hyp_alive_linkOk : alive.link.ok := ⟨by decide, by decide, ⟨_, rfl, by decide, by decide⟩, rfl, rfl⟩

/-! ### Queue, reports and link -/

/-- A LOCK queue with a number of records. -/
def holding (n : Nat) : State := State.reset.setReports { ReportUnit.reset with
  queues := ReportUnit.reset.queues.set 0 (List.replicate n ⟨.jam, 0, 0, 0⟩) }

theorem test_hyp_queue : { State.reset with pending := [Instr.replyEnd] }.pending = .replyEnd :: [] ∧ State.reset.pending = [] := ⟨rfl, rfl⟩
theorem test_hyp_post : (queue 0 (holding 23)).length = 23 ∧ (queue 0 (holding 24)).length = 24 := by decide
theorem test_hyp_queueRequests : reported.reportsOk ∧ (∀ kind v, reported.takes kind [v]) ∧ (4 : Byte).toNat = 4 ∧
    (3 : Byte).toNat = (3 : Fin 4).val ∧ queue 3 reported = [] ∧ (0 : Byte).toNat = (0 : Fin 4).val ∧
    queue 0 reported = ⟨.stateChange, 7, 3, 2⟩ :: [] :=
  ⟨test_hyp_alive_reportsOk.2, fun kind v => test_hyp_takes kind [v] (show 1 ≤ 95 by decide) _ rfl, by decide⟩
theorem test_hyp_conditions : reported.reportsOk ∧ reported.takes 0x63 [0xFF, 0xFF] ∧ reported.takes 0x64 [0, 1, 1] ∧
    reported.takes 0x01 [] ∧ reported.takes 0x01 (List.replicate 95 0) :=
  ⟨test_hyp_alive_reportsOk.2, test_hyp_takes _ _ (by decide) _ rfl, test_hyp_takes _ _ (by decide) _ rfl,
    test_hyp_takes _ _ (by decide) _ rfl, test_hyp_takes _ _ (by decide) _ rfl⟩

/-- The last body byte to come. -/
def lastByte : State := State.reset.setLink
  { Link.reset with rx := .inBody, frame := some ⟨3, [0x16, 0]⟩, timer := some 9600000 }

theorem test_hyp_receivedByte : State.reset.link.rx = .hunting ∧ (0xD5 : Byte) ≠ 0xD4 ∧ atLength.link.rx = .awaitLength ∧
    1 ≤ (1 : Byte).toNat ∧ (96 : Byte).toNat ≤ 96 ∧ inFrame.link.rx = .inBody ∧ inFrame.link.frame = some ⟨3, [0x16]⟩ ∧
    [(0x16 : Byte)].length < (3 : Byte).toNat ∧ lastByte.link.rx = .inBody ∧ lastByte.link.frame = some ⟨3, [0x16, 0]⟩ ∧
    [(0x16 : Byte), 0].length < (3 : Byte).toNat := by decide
theorem test_hyp_bytewise : requestShape (.echo (List.replicate 95 7)) = some (0x01, none) ∧
    (Instr.echo (List.replicate 95 7)).params = some (List.replicate 95 7) ∧ (List.replicate 95 (7 : Byte)).length ≤ 95 ∧
    State.reset.link.rx = .hunting ∧ requestShape (.restart []) = some (0x02, some 0) ∧ (Instr.restart []).params = some [] := by
  decide
theorem test_hyp_frameFaults : atLength.link.rx = .awaitLength ∧ (0 : Byte).toNat = 0 ∧ 96 < (97 : Byte).toNat ∧
    atCheck.link.rx = .awaitCheck ∧ atCheck.link.frame = some ⟨1, 0x1A :: []⟩ ∧ [(0x1A : Byte)].foldl (· + ·) 1 + 0 ≠ 0 ∧
    inFrame.link.rx = .inBody := by decide

/-- The timer of each of the three states with the 25 ms just gone, just not, and stopped. -/
theorem test_hyp_frameTimeout : atLength.link.timer = some ((0 : Stamp) + 9600000) ∧ inFrame.link.timer = some ((0 : Stamp) + 9600000) ∧
    atCheck.link.timer = some ((0 : Stamp) + 9600000) ∧ 9600000 ≤ ((9600000 : Stamp) - 0).toNat ∧
    ((9599999 : Stamp) - 0).toNat < 9600000 ∧ State.reset.link.timer = none := by decide
theorem test_hyp_closed : inReply.link.rx = .closed ∧ inReply.link.restartAwaits = false ∧ 0 < inReply.link.closedCount ∧
    inRestart.link.rx = .closed ∧ inRestart.link.restartAwaits = true ∧
    requestShape (.setAdvance [0, 1]) = some (0x16, some 2) ∧ (Instr.setAdvance [0, 1]).params = some [0, 1] := by decide
theorem test_hyp_closed_empty : (after (.restart [1]) State.reset).link.rx = .closed ∧
    (after (.restart [1]) State.reset).link.restartAwaits = false ∧ (after (.restart [1]) State.reset).link.closedCount = 0 := by decide
theorem test_hyp_refused : requestKinds.contains 0x00 = false ∧ State.reset.takes 0x00 [] ∧ requestShape (.keyer []) = some (0x33, some 1) ∧
    (Instr.keyer []).params = some [] ∧ ([] : List Byte).length ≠ 1 ∧ State.reset.takes 0x33 [] :=
  ⟨by decide, test_hyp_takes _ _ (by decide) _ rfl, by decide, by decide, by decide, test_hyp_takes _ _ (by decide) _ rfl⟩

/-! ### Settings -/

/-- The requests of this section are taken after reset, at any operands. -/
theorem test_hyp_takes_reset (kind : Byte) (ps : List Byte) (h : ps.length ≤ 95) : State.reset.takes kind ps :=
  test_hyp_takes kind ps h _ rfl

theorem test_hyp_codes : (0 : Byte).toNat = Profile.broadcast.code ∧ (1 : Byte).toNat = Profile.tape.code ∧
    (0 : Byte).toNat = boolCode false ∧ (1 : Byte).toNat = boolCode true ∧ 2 ≤ (2 : Byte).toNat ∧
    (0 : Byte).toNat = BankName.a.code ∧ (1 : Byte).toNat = BankName.b.code := by decide
theorem test_hyp_restartTiming : (0 : Byte).toNat = State.reset.timing.standard.code ∧ (1 : Byte).toNat = Standard.s525.code ∧
    State.reset.timing.standard ≠ .s525 ∧ State.reset.timing.lpix = clampNat 320 1400 (256 * (3 : Byte).toNat + (0 : Byte).toNat) ∧
    State.reset.timing.mode = .interlaced ∧ (0 : Byte).toNat = RasterMode.interlaced.code ∧
    State.reset.timing.latency = clampNat 0 15 (0 : Byte).toNat ∧ (1 : Byte).toNat = RasterMode.nonInterlaced.code ∧
    State.reset.timing.mode ≠ .nonInterlaced := by decide

/-- INTERNAL. -/
def freed : State := { State.reset with engine := { Engine.reset with lock := .internal, unlocked := false } }

theorem test_hyp_internal : freed.takes 0x17 [] ∧ freed.takes 0x18 [] ∧ freed.engine.lock = .internal ∧ State.reset.engine.lock ≠ .internal :=
  ⟨test_hyp_takes _ _ (by decide) _ rfl, test_hyp_takes _ _ (by decide) _ rfl, by decide, by decide⟩

/-! ### Loop and reference input -/

/-- 2.3.02: LOCKED in the TAPE profile, the generated line start 48 fu before the prediction. -/
def measuring (lock : LockState) : State := { State.reset with
  engine := { Engine.reset with lock := lock, profile := .tape, history := [5024540], vmatch := true, lockRun := 127, dropRun := 23 } }

theorem test_hyp_measure : (measuring .locked).engine.lock = .locked ∧ (measuring .acquire).engine.lock = .acquire ∧
    ((measuring .locked).engine.takeStep (some 1152)).measureFrom (5025740 + BitVec.ofInt 24 (0 - 1152)) = some 5024540 ∧
    ((measuring .acquire).engine.takeStep none).measureFrom 5024588 = some 5024540 := by decide

/-- The most recent start before the target among three, and the oldest when each comes after it. -/
theorem test_hyp_chosen : chosenStart [30] 30 30 ∧ chosenStart [30, 20, 10] 29 20 ∧ chosenStart [30, 20] 10 20 :=
  ⟨Or.inl ⟨[], [], rfl, by decide, by simp⟩, Or.inl ⟨[30], [10], rfl, by decide, by simp [stampDiff]⟩,
    Or.inr ⟨⟨[30], rfl⟩, by simp [stampDiff]⟩⟩
theorem test_hyp_measureElse : { Engine.reset with lock := .locked }.history = [] ∧ State.reset.engine.lock ≠ .acquire ∧
    State.reset.engine.lock ≠ .locked ∧ (queue 0 (holding 22)).length ≤ 22 := by decide

/-- 2.3.03: the error and the new S; and the 128th update within W_lock, which with vertical match enters LOCKED. -/
theorem test_measure : ((measuring .locked).measure ⟨5025740, none, false, some 1152⟩).engine.e = 48 ∧
    ((measuring .locked).measure ⟨5025740, none, false, some 1152⟩).engine.s = 1152 ∧
    ((measuring .acquire).measure ⟨5024588, none, false, none⟩).engine.lock = .locked := by decide

/-- R52: the 24th error above W_drop in a row drops lock and clears the runs; the measured states with the store active. -/
theorem test_measure_drops :
    let s := (measuring .locked).setEngine { (measuring .locked).engine with missRun := 1 }
    let t := s.measure ⟨5024540 + 513, none, false, none⟩
    (t.engine.lock, t.engine.dropRun, t.engine.missRun, t.engine.lockRun) = (.acquire, 0, 0, 0) := by decide
theorem test_hyp_measure_lockOk :
    let s := { measuring .acquire with
      store := { Store.reset with active := true }, mixer := { Mixer.reset with recorded := .acquire } }
    s.lockOk ∧ (s.measure ⟨5024588, none, false, none⟩).store = s.store ∧
    (s.measure ⟨5024588, none, false, none⟩).mixer.recorded = .locked := by unfold State.lockOk; decide

theorem test_hyp_search : State.reset.pulse = .idle ∧ pairComing.classifier.tracking = .search ∧ pairComing.pulse = .inProgress 4975226 ∧
    pairComing.classifier.candidate = some 4950650 ∧
    lnom .s625 / 20 < (((4975226 + 1229 - 4950650 : Stamp).toNat : Int) - lnom .s625).natAbs ∧
    { State.reset with pulse := .inProgress 5 }.classifier.candidate = none ∧ { State.reset with pulse := .handled }.pulse = .handled := by
  decide

/-- The greatest fair spacing, and the classes at their bounds. -/
theorem test_hyp_pair : (((4975226 + 1228 - 4950650 : Stamp).toNat : Int) - lnom .s625).natAbs ≤ lnom .s625 / 20 ∧
    (queue 0 pairComing).length < 24 ∧ (pulseClass 31, pulseClass 32, pulseClass 83, pulseClass 84) = (.noise, .short, .short, .line) ∧
    (pulseClass 191, pulseClass 192, pulseClass 959, pulseClass 960) = (.line, .broad, .broad, .overlong) := by decide
theorem test_hyp_pair_trackingOk : pairComing.trackingOk ∧ pairComing.lockOk := by
  unfold State.trackingOk State.lockOk
  decide

/-- The last stamp of the narrow window, the first and the last of the wide one alone, and the first outside both. -/
theorem test_hyp_track : (tracked 0).classifier.tracking = .track ∧ (tracked 0).classifier.prediction = some ⟨4999802, 48, 384⟩ ∧
    (stampDiff (4999802 + 768) 4999802).natAbs ≤ 16 * 48 ∧ 16 * 48 < (stampDiff (4999802 - 769) 4999802).natAbs ∧
    (stampDiff (4999802 + 6144) 4999802).natAbs ≤ 16 * 384 ∧ 16 * 384 < (stampDiff (4999802 - 6145) 4999802).natAbs ∧
    (tracked 0).classifier.closeHeld = false ∧ (tracked 0).classifier.anchor = some ⟨4975226, true, false⟩ ∧
    (tracked 0).classifier.inMidLine 4999802 = false ∧ (pulseClass 32, pulseClass 959) = (.short, .broad) := by decide

/-- A STEP line start as the anchor; the closing of the window held back. -/
theorem test_hyp_track_step : (after (.syncPulse 113) (atSwitch 5025740)).classifier.tracking = .track ∧
    (after (.syncPulse 113) (atSwitch 5025740)).classifier.anchor = some ⟨5025740, true, true⟩ := by decide
def heldBack : State := { tracked (4999802 - 6145) with classifier := { (tracked 0).classifier with closeHeld := true } }
theorem test_hyp_held : heldBack.classifier.closeHeld = true ∧ heldBack.classifier.tracking = .track ∧
    heldBack.pulse = .inProgress (4999802 - 6145) ∧ heldBack.classifier.prediction = some ⟨4999802, 48, 384⟩ ∧
    heldBack.classifier.inMidLine (4999802 - 6145) = false := by decide

/-- R9: the synthetic line start that a stray, a NOISE and an OVERLONG pulse release, each with its own bad events. -/
theorem test_release_held : (after (.syncPulse 113) heldBack).classifier.anchor = some ⟨4999802, false, false⟩ ∧
    (after (.syncPulse 113) heldBack).classifier.badCount = 2 ∧ (after (.syncPulse 10) heldBack).classifier.badCount = 1 ∧
    (after .overlongPulse heldBack).classifier.synthCount = 1 := by decide
theorem test_hyp_close : (tracked (4999802 + 6144)).pulse = .inProgress (4999802 + 6144) ∧
    { atSwitch 0 with pulse := .idle }.pulse = .idle ∧ (0 + 1 : Nat) < (atSwitch 0).classifier.nloss ∧
    (atSwitch 0).classifier.nloss ≤ raised 63 11 ∧ raised 63 0 < (atSwitch 0).classifier.nloss ∧
    16 * 384 < (stampDiff (4999802 - 6145) 4999802).natAbs := by decide

/-- A loss in LOCKED: HOLDOVER with K held at K0 - I, and FREE with Hmax 0; REF_LOST and STATE_CHANGE in this order. -/
theorem test_loss_locked : (((measuring .locked).setEngine { (measuring .locked).engine with i := 6400 }).loseReference).engine.lock = .holdover ∧
    (((measuring .locked).setEngine { (measuring .locked).engine with i := 6400 }).loseReference).engine.k = 2147477248 ∧
    (((measuring .locked).setEngine { (measuring .locked).engine with i := 6400 }).loseReference).engine.holdover = 500 ∧
    (((measuring .locked).setEngine { (measuring .locked).engine with hmax := 0 }).loseReference).engine.lock = .free ∧
    queue 0 (measuring .locked).loseReference = [⟨.refLost, 0, 0, 0⟩, ⟨.stateChange, 0, 3, 2⟩] := by decide

/-- The verdict on (1, 313) is good, and with a bad event above B it is not; with nine good ones before it completes Q. -/
theorem test_hyp_midLine : fieldEnd.classifier.tracking = .track ∧ fieldEnd.pulse = .inProgress (4975226 + 12288) ∧
    fieldEnd.classifier.inMidLine (4975226 + 12288) = true ∧ fieldEnd.classifier.numbering = .numbered ⟨.one, 313⟩ ∧
    fieldEnd.classifier.syncRun = false ∧ 200 ≤ 313 ∧ fieldEnd.classifier.closeHeld = false ∧ fieldEnd.engine.lock = .free ∧
    fieldEnd.classifier.isGood .s625 ⟨.one, 313⟩ = true ∧
    { fieldEnd.classifier with badCount := 5 }.isGood .s625 ⟨.one, 313⟩ = false ∧ fieldEnd.engine.q ≤ raised 255 9 ∧
    raised 255 0 < fieldEnd.engine.q ∧ (tracked 0).classifier.numbering = .unnumbered := by decide

/-- R17: the fourth field of 262 lines in a row posts STANDARD_MISMATCH, and a field of the right length STANDARD_OK. -/
theorem test_standard_reports :
    let wrong := fieldEnd.setClassifier { fieldEnd.classifier with numbering := .numbered ⟨.one, 262⟩, wrongRun := 3 }
    let right := fieldEnd.setClassifier { fieldEnd.classifier with mismatch := true }
    queue 0 wrong.giveVerdict = queue 0 fieldEnd ++ [⟨.standardMismatch, 0, 0, 262⟩] ∧ (queue 0 fieldEnd).length ≤ 22 ∧
    queue 0 right.giveVerdict = queue 0 fieldEnd ++ [⟨.standardOk, 0, 0, 313⟩] := by decide

/-- R14: with the flywheel armed the line after (1, 313) starts a synthetic field of parity 2. -/
theorem test_flywheel :
    let s := fieldEnd.setClassifier { fieldEnd.classifier with flywheel := true }
    (s.numberLine 5).2 = some ⟨.two, 1⟩ ∧ (s.numberLine 5).1.classifier.startSynthetic = true ∧
    (s.numberLine 5).1.classifier.numbering = .numbered ⟨.two, 1⟩ ∧ (s.numberLine 5).1.timing.jam = none := by decide

/-- R12: a BROAD pulse on the grid starts a field of parity 1 through an open gate, and is a bad event at a shut one. -/
theorem test_grid_broad : (after (.syncPulse 600) (tracked 4999802)).classifier.numbering = .numbered ⟨.one, 1⟩ ∧
    (((tracked 0).setClassifier { (tracked 0).classifier with numbering := .numbered ⟨.two, 199⟩ }).numberBroad 5).1.classifier.badCount = 1 := by
  decide

/-- R50, R68: the verdict that completes qualification enters ACQUIRE, and the store starts empty; one short of it, nothing of
this; in ACQUIRE a field start leaves the store. -/
theorem test_enter_acquire :
    let s := fun n => fieldEnd.setEngine { fieldEnd.engine with qual := n }
    let t := (s 9).startRefField ⟨.two, false, 5⟩ (.awaiting .two)
    t.engine.lock = .acquire ∧ t.store = Store.reset.goneActive ∧ t.timing.jam = some ⟨.two, 3, 3⟩ ∧
    ((s 8).startRefField ⟨.two, false, 5⟩ (.awaiting .two)).store = Store.reset := by decide

/-! ### Clock -/

theorem test_hyp_ticks : State.reset.timing.acc.toNat + State.reset.engine.k < 2 ^ 32 ∧ State.reset.engine.k < 2 ^ 32 ∧
    releaseTick.tickKind = .lineSyncRelease ∧ pixelTick.tickKind = .pixel ∧ pixelTick.timing.lineSync = none ∧
    { pixelTick with timing := { pixelTick.timing with lineSync := some 2 } }.tickKind = .pixel ∧
    pixelTick.timing.latency = 0 ∧ pixelTick.mixer.pipeline = [] := by decide

/-- With latency 3: two pixels wait and the output is black; three wait, the oldest of the line before, and it is paired. -/
def delayed (n : Nat) : State := { pixelTick with
  timing := { pixelTick.timing with latency := 3 }
  mixer := { Mixer.reset with
    prevCtx := { LineContext.reset with source := .store }
    pipeline := List.replicate n (waiting ⟨.one, 4⟩ 765 ⟨90, 90, 90⟩ true), syncDelay := List.replicate 3 (true, false) } }
theorem test_hyp_latency : (delayed 2).tickKind = .pixel ∧ (delayed 2).mixer.pipeline.length + 1 ≤ (delayed 2).timing.latency ∧
    (delayed 3).tickKind = .pixel ∧ (delayed 3).timing.latency ≤ 3 ∧ (delayed 3).mixer.syncDelay.length = (delayed 3).timing.latency := by
  decide
theorem test_latency_tick : (after (.pixelClock 0 Sample.black) (delayed 2)).mixer.output = ⟨Sample.black, true, false⟩ ∧
    (after (.pixelClock 0 Sample.black) (delayed 3)).mixer.output.pixel = ⟨90, 90, 90⟩ := by decide

/-- ACQUIRE with the store active, at a jam check of parity 1 and at one of parity 2 at mid-line. -/
def acquiring (s : State) : State := { s with
  store := { Store.reset with active := true }, mixer := { s.mixer with recorded := .acquire } }
theorem test_hyp_pixels : lineTick.lockOk ∧ midLineTick.lockOk ∧ restartTick.lockOk ∧ (acquiring jamTick).lockOk ∧
    (acquiring matchTick).lockOk :=
  ⟨by unfold State.lockOk; decide, by unfold State.lockOk; decide, by unfold State.lockOk; decide,
    by unfold State.lockOk; decide, by unfold State.lockOk; decide⟩
/-- An idle and an active store that keep their slots through a mid-line field start, and a jam countdown pending there. -/
theorem test_hyp_midLine_store :
    let holding := fun n => { midLineTick with
      engine := { Engine.reset with lock := .holdover, holdover := n }, mixer := { Mixer.reset with recorded := .holdover } }
    midLineTick.store.slotsOk ∧ (acquiring matchTick).store.slotsOk ∧ (holding 1).lockOk ∧ (holding 1).store.slotsOk ∧
    (holding 2).lockOk ∧ { midLineTick with timing := { midLineTick.timing with jam := some ⟨.one, 3, 2⟩ } }.tickKind = .midLine :=
  ⟨by unfold Store.slotsOk; decide, by unfold Store.slotsOk; decide, by unfold State.lockOk; decide,
    by unfold Store.slotsOk; decide, by unfold State.lockOk; decide, by decide⟩

/-- R51: entry to LOCKED at a match clears both runs, and the store keeps its slots. -/
theorem test_match_enters_locked :
    let s := (acquiring matchTick).setEngine { (acquiring matchTick).engine with dropRun := 7, missRun := 1 }
    let t := (s.setMatch true).testLocked.1
    (t.engine.lock, t.engine.dropRun, t.engine.missRun) = (.locked, 0, 0) ∧ t.store = s.store := by decide

/-- A check that completes in LOCKED, at mid-line and at a line start, with a match; R75: at mid-line the store stays. -/
theorem test_hyp_jam_locked :
    let locked := fun s : State => s.setEngine { s.engine with lock := .locked }
    let due := { jamTick with timing := { jamTick.timing with key := ⟨.two, 312⟩ } }
    (locked matchTick).tickKind = .jamCheck ∧ (locked due).tickKind = .jamCheck ∧
    (after (.jamCheckComplete 0 ⟨Sample.black, []⟩) (locked due)).engine.lock = .locked ∧
    (after (.jamCheckComplete 0 ⟨Sample.black, []⟩) (locked matchTick)).store = matchTick.store ∧
    (after (.jamCheckComplete 0 ⟨Sample.black, []⟩) (locked matchTick)).engine.vmatch = true := by decide

theorem test_hyp_pixel_jam : (acquiring jamTick).tickKind = .jamCheck ∧ (acquiring jamTick).timing.jamDue = some ⟨.one, 3, 1⟩ ∧
    (acquiring matchTick).tickKind = .jamCheck ∧ (acquiring matchTick).timing.jamDue = some ⟨.two, 3, 1⟩ ∧
    { releaseTick with timing := { releaseTick.timing with latency := 15 } }.tickKind = .lineSyncRelease := by decide

/-- R97: store output above the legal range with the keyer off is limited as VIDEO. -/
theorem test_clip :
    let s := { pixelTick with mixer := { Mixer.reset with
      ctx := { LineContext.reset with source := .store }, pipeline := [waiting ⟨.one, 4⟩ 9 ⟨255, 128, 3⟩ false] } }
    (after (.pixelClock 0 Sample.black) s).mixer.output.pixel = ⟨235, 128, 16⟩ ∧
    (after (.pixelClock 0 Sample.black) s).mixer.clip = some ⟨.video, ⟨.one, 4⟩, 0⟩ ∧
    (after (.pixelClock 0 Sample.black) s).reports.latched.getLsbD 4 = true := by decide

/-- R55: HOLDOVER with 2 and with 1 to come at a field start that falls at a line start. -/
def holdoverLine (n : Nat) : State := { lineTick with
  timing := { lineTick.timing with key := ⟨.two, 312⟩, parity := .two }
  engine := { Engine.reset with lock := .holdover, holdover := n } }
theorem test_holdover_line : (holdoverLine 2).tickKind = .lineStart ∧ (holdoverLine 2).timing.naturalStart = some .one ∧
    (after (.generatedLineStart 0 ⟨Sample.black, []⟩) (holdoverLine 2)).engine.holdover = 1 ∧
    (after (.generatedLineStart 0 ⟨Sample.black, []⟩) (holdoverLine 1)).engine.lock = .free ∧
    queue 0 (after (.generatedLineStart 0 ⟨Sample.black, []⟩) (holdoverLine 1)) = [⟨.stateChange, 1, 0, 3⟩] := by decide

/-- A line start with a natural field start and one without; mid-line in HOLDOVER with 2, with 1 to come, and elsewhere. -/
theorem test_hyp_starts : lineTick.timing.naturalStart = none ∧
    { lineTick with timing := { lineTick.timing with key := ⟨.two, 312⟩, parity := .two } }.timing.naturalStart = some .one ∧
    { lineTick with timing := { lineTick.timing with key := ⟨.two, 312⟩, parity := .two } }.tickKind = .lineStart ∧
    midLineTick.tickKind = .midLine ∧ midLineTick.engine.lock ≠ .holdover ∧
    { midLineTick with engine := { Engine.reset with lock := .holdover, holdover := 2 } }.tickKind = .midLine ∧
    { midLineTick with engine := { Engine.reset with lock := .holdover, holdover := 1 } }.tickKind = .midLine ∧
    { lineTick with timing := { lineTick.timing with jam := some ⟨.one, 3, 2⟩ } }.tickKind = .lineStart ∧
    midLineTick.cues.armed = [] := by decide

/-- The request between is taken at each of the four ticks, and the field's reports find room. -/
theorem test_hyp_between : midLineTick.takes 0x36 [BitVec.ofNat 8 (boolCode true)] ∧ lineTick.takes 0x36 [BitVec.ofNat 8 (boolCode false)] ∧
    jamTick.takes 0x36 [1] ∧ restartTick.takes 0x36 [1] ∧ (queue 2 midLineTick).length + (begunPosts swapping).length ≤ 24 :=
  ⟨test_hyp_takes _ _ (by decide) _ rfl, test_hyp_takes _ _ (by decide) _ rfl, test_hyp_takes _ _ (by decide) _ rfl,
    test_hyp_takes _ _ (by decide) _ rfl, by decide⟩

/-- LOCKED at the line start of (1, 2), or of (1, 1) after a field start, the store holding lines of parity 2. -/
def lockedLine (newField : Bool) : State := { lineTick with
  timing := { lineTick.timing with newField := newField }
  engine := shortField.engine, store := shortField.store, mixer := { Mixer.reset with recorded := .locked } }
theorem test_hyp_lineRead : (lockedLine true).tickKind = .lineStart ∧ (lockedLine true).timing.naturalKey = ⟨.one, 1⟩ ∧
    (lockedLine true).store.active = true ∧ (lockedLine true).engine.lock = .locked ∧ (lockedLine true).engine.missRun = 0 ∧
    ((lockedLine true).storeLookUp ⟨.one, 1⟩).2 = false ∧ ((lockedLine true).storeLookUp ⟨.two, 1⟩).2 = true ∧
    (lockedLine false).timing.naturalKey = ⟨.one, 2⟩ ∧ lineTick.store.active = false := by decide
theorem test_hyp_lineRead_lockOk (b : Bool) : (lockedLine b).lockOk ∧ lineTick.lockOk :=
  ⟨by cases b <;> · unfold State.lockOk; decide, by unfold State.lockOk; decide⟩

/-- R53, R78: a miss at line 1 is kept and counted, and the second in a row drops lock. -/
theorem test_line_one_miss : (after (.generatedLineStart 0 ⟨Sample.black, []⟩) (lockedLine true)).store.lineOne = some .miss ∧
    (after (.generatedLineStart 0 ⟨Sample.black, []⟩) (lockedLine true)).engine.missRun = 1 ∧
    (after (.generatedLineStart 0 ⟨Sample.black, []⟩)
      { lockedLine true with engine := { (lockedLine true).engine with missRun := 1 } }).engine.lock = .acquire := by decide

/-- The hit at line (2, 1), and the miss run as the second miss finds it. -/
theorem test_hyp_lineHit :
    let s := { lockedLine true with timing := { (lockedLine true).timing with parity := .two } }
    s.tickKind = .lineStart ∧ s.timing.naturalKey = ⟨.two, 1⟩ ∧ (s.storeLookUp ⟨.two, 1⟩).2 = true ∧
    (after (.generatedLineStart 0 ⟨Sample.black, []⟩) s).store.lineOne = some .hit ∧
    (after (.generatedLineStart 0 ⟨Sample.black, []⟩) s).engine.missRun = 0 := by decide

/-- Match and jam with parity 1 at the line start and parity 2 at mid-line. -/
theorem test_hyp_jam : jamTick.engine.lock = .acquire ∧ jamTick.cues.armed = [] ∧ (queue 0 jamTick).length < 24 ∧
    jamTick.timing.naturalKey ≠ ⟨.one, 1⟩ ∧ matchTick.timing.mode = .interlaced ∧
    { matchTick with timing := { matchTick.timing with key := ⟨.one, 202⟩ } }.tickKind = .jamCheck ∧
    { jamTick with timing := { jamTick.timing with key := ⟨.two, 312⟩ } }.timing.naturalKey = ⟨.one, 1⟩ := by decide
theorem test_hyp_restartCarry : restartTick.tickKind = .restartCarry ∧
    { restartTick with timing := { restartTick.timing with latency := 15 } }.tickKind = .restartCarry := by decide

/-! ### Store and mixer -/

theorem test_hyp_store : shortField.store.slotsOk ∧ Store.reset.slotsOk ∧ shortField.store.active = true ∧ Store.reset.active = false ∧
    shortField.store.role 2 = .filled ∧ (∀ i, Store.reset.role i ≠ .filled) :=
  ⟨test_hyp_alive_slotsOk, by unfold Store.slotsOk; decide, by decide, by decide, by decide, by decide⟩

/-- Every slot FILLED: a write loses the oldest line. -/
def fullStore : State := { shortField with store := { shortField.store with
  shown := none, slots := Vector.ofFn fun i => filledSlot ⟨.two, i.val + 5⟩ (BitVec.ofNat 16 (40 + i.val)) } }
theorem test_hyp_storeWrite : fullStore.store.slotsOk ∧ fullStore.store.active = true ∧
    (∀ j, ¬(fullStore.store.role j = .free ∨ (fullStore.store.role j = .filled ∧ (fullStore.store.slots[j]).key = ⟨.one, 1⟩))) ∧
    shortField.store.role 4 = .free := ⟨by unfold Store.slotsOk; decide, by decide, by decide, by decide⟩
theorem test_write_loses_oldest : queue 1 (fullStore.storeWrite ⟨0, some ⟨.one, 1⟩, false, none⟩) = [⟨.drop, 0, 1, 2053⟩] ∧
    ((fullStore.storeWrite ⟨0, some ⟨.one, 1⟩, false, none⟩).store.slots[0]).key = ⟨.one, 1⟩ ∧
    (fullStore.storeWrite ⟨0, some ⟨.one, 1⟩, false, none⟩).reports.latched.getLsbD 5 = true := by decide

/-- R72: the lines older than the one found are dropped in one report; R73 with a SYNTHETIC slot shown again (log 32). -/
theorem test_found_drops : queue 1 (fullStore.storeRead ⟨.two, 7⟩) = [⟨.drop, 0, 2, 2053⟩] := by decide
theorem test_hyp_older : fullStore.store.role 2 = .filled ∧ (fullStore.store.slots[2]).key = ⟨.two, 7⟩ ∧
    ((List.finRange 8).filter fun j => fullStore.store.role j = .filled ∧ fullStore.store.age 2 < fullStore.store.age j) = [0, 1] := by decide

/-- The first and the last sample of a line, an instant before the first, and a tick that is no instant. -/
theorem test_hyp_sampling : { shortField.store with sampling := some ⟨3, 0⟩ }.slotsOk ∧ stampDiff 3584 0 - 3584 = 32 * 0 ∧
    stampDiff (3584 + 32 * 639) 0 - 3584 = 32 * 639 ∧ stampDiff 3552 0 - 3584 < 0 ∧ (3600 : Stamp).toNat % 32 ≠ 0 :=
  ⟨by unfold Store.slotsOk; decide, by decide, by decide, by decide, by decide⟩
theorem test_hyp_output : Store.reset.shown = none ∧ shortField.store.shown = some 1 ∧ (shortField.store.slots[1]).synthetic = false ∧
    sampleOfPixel .s625 768 0 111 < 0 ∧ 0 ≤ sampleOfPixel .s625 768 0 112 ∧ sampleOfPixel .s625 768 0 751 < 640 ∧
    640 ≤ sampleOfPixel .s625 768 0 752 ∧
    ({ filledSlot ⟨.one, 1⟩ 0 with role := .shown, synthetic := true }).synthetic = true := by decide
theorem test_hyp_mix : legal ⟨16, 16, 240⟩ ∧ legal ⟨235, 240, 16⟩ ∧ (0 : Nat) ≤ 256 ∧ 256 ≤ 256 := by unfold legal; decide

/-- A pixel at the corner of its window, the keyer on. -/
def keyed : Pixel := { waiting ⟨.one, 280⟩ 690 Sample.black false with
  keyer := true, windows := (Vector.replicate 8 Window.cleared).set 3 ⟨true, 230, 280, 80, 690, .add, .gen 2⟩ }

theorem test_hyp_keyLevel : keyed.keyer = true ∧ (waiting ⟨.one, 1⟩ 0 Sample.black false).keyer = false ∧
    (keyed.windows[3]).enabled = true ∧ (keyed.windows[3]).contains 280 690 = true ∧
    (∀ j : Fin 8, j < 3 → ¬((keyed.windows[j]).enabled = true ∧ (keyed.windows[j]).contains 280 690 = true)) ∧
    (∀ i : Fin 8, ¬((keyed.windows[i]).enabled = true ∧ (keyed.windows[i]).contains 281 690 = true)) ∧
    LineContext.reset.source = .matte ∧ LineContext.reset.policy = .hide ∧
    { LineContext.reset with policy := .full }.policy = .full ∧ { LineContext.reset with policy := .keep }.policy = .keep ∧
    { LineContext.reset with source := .store }.source = .store := by decide
theorem test_hyp_levels : (∀ i : Fin 8, (keyed.windows[i]).level.ok) ∧ ∀ g : Fin 4, keyed.levels[g] ≤ 65536 :=
  ⟨fun i => by
    show LevelSource.ok _
    fin_cases i <;> first | exact trivial | exact show (256 : Nat) ≤ 256 by decide, by decide⟩

/-- The four answers: FULL and HIDE on a matte line, KEEP there and a STORE line by the window. -/
theorem test_key_levels : keyed.keyLevel { LineContext.reset with policy := .full } .clear = (256, .replace) ∧
    keyed.keyLevel LineContext.reset .solid = (0, .replace) ∧
    { keyed with levels := Vector.replicate 4 65536 }.keyLevel { LineContext.reset with policy := .keep } .half = (128, .add) ∧
    { keyed with levels := Vector.replicate 4 32896 }.keyLevel { LineContext.reset with source := .store } .solid = (129, .add) := by
  decide
theorem test_hyp_keyer : true ≠ Mixer.reset.keyer ∧ { Mixer.reset with keyerNext := some true }.keyerNext.isSome = true ∧
    false = Mixer.reset.keyer ∧ Mixer.reset.keyerNext = none := by decide
theorem test_hyp_mixerSettings : (15 : Byte).toNat = (15 : Fin 16).val ∧ 16 ≤ (16 : Byte).toNat ∧ (2 : Byte).toNat = ColourClass.half.code ∧
    3 ≤ (3 : Byte).toNat ∧ (2 : Byte).toNat = LossPolicy.hide.code := by decide

/-! ### Banks, fades and cues -/

theorem test_hyp_banks : (1 : Byte).toNat = BankName.b.code ∧ (7 : Byte).toNat = (7 : Fin 8).val ∧ State.reset.banks.live = .a ∧
    State.reset.banks.swap = none ∧ swapping.banks.swap.isSome = true ∧
    windowOf 1 230 280 80 690 0 0 256 = some ⟨true, 230, 280, 80, 690, .replace, .fixed 256⟩ := by decide
theorem test_hyp_swapping_takes (kind : Byte) (ps : List Byte) (h : ps.length ≤ 95) : swapping.takes kind ps := test_hyp_takes kind ps h _ rfl

/-- A STOP generator at its bound, one in the middle and one with step 0; a WRAP with one level; a BOUNCE at a bound. -/
theorem test_hyp_fades : Fade.ok ⟨true, .bounce, 65536, 20000, 0, 65536, false⟩ ∧ Fade.ok ⟨true, .bounce, 0, -20000, 0, 65536, false⟩ ∧
    Fade.ok ⟨true, .bounce, 50, 100, 0, 150, false⟩ ∧ (⟨true, .wrap, 9, 0, 9, 9, false⟩ : Fade).lo ≤ 9 ∧
    (⟨true, .stop, 5, 0, 5, 5, false⟩ : Fade).lo ≤ 5 := by
  unfold Fade.ok fadeRange
  decide

/-- Each ground of a refused load at its bound, and the load beside it that passes. -/
theorem test_hyp_loads : loadOf 4 0 0 0 0 0 = none ∧ loadOf 3 0 0 0 0 3 = none ∧ loadOf 3 0 0 1 0 0 = none ∧
    loadOf 3 0 10 0 9 1 = none ∧ (loadOf 3 0 9 0 9 1).isSome = true ∧ loadOf 3 0 10 0 9 2 = none ∧ (loadOf 3 0 9 0 9 2).isSome = true ∧
    loadOf 3 0 0x8000 0 65536 2 = none ∧ (loadOf 3 0 0x8000 0 65536 0).isSome = true := by decide

/-- A pool with an empty FREE. -/
def fullPool : State := State.reset.setCues { CuePool.reset with free := [], held := List.finRange 64 }

theorem test_hyp_cues : withPool.cues.ok ∧ fullPool.cues.free = [] ∧ (contentOf markContent).isSome = true ∧
    contentOf (List.replicate 24 9) = none ∧ markContent.length = 24 ∧ (2 : Byte).toNat = CueList.held.code ∧
    withPool.cues.listOf 4 = .free ∧ withPool.cues.listOf 0 = .armed ∧ withPool.cues.listOf 1 = .held ∧ withPool.cues.listOf 3 = .done :=
  ⟨test_hyp_alive_cuesOk, by decide⟩
theorem test_hyp_fullPool : fullPool.cues.ok := by unfold CuePool.ok; exact ⟨List.Perm.refl _, by decide⟩
theorem test_hyp_pool_takes (kind : Byte) (ps : List Byte) (h : ps.length ≤ 95) : withPool.takes kind ps ∧ fullPool.takes kind ps :=
  ⟨test_hyp_takes kind ps h _ rfl, test_hyp_takes kind ps h _ rfl⟩

/-- A move, a placement within a list and to another, and an index on FREE. -/
theorem test_hyp_moves : (2 : Fin 64) ∉ withPool.cues.free ∧ (63 : Byte).toNat = (63 : Fin 64).val ∧ (63 : Fin 64) ∈ withPool.cues.free ∧
    (withPool.cues.on .armed).erase 2 = [] ++ 0 :: [] ∧ (withPool.cues.on .held).erase 0 = [] ++ 1 :: [] ∧ 64 ≤ (64 : Byte).toNat := by
  decide
theorem test_hyp_collect : (∀ i : Fin 64, (CuePool.reset.records[i]).pending = false) ∧ (somePool.records[3]).pending = true ∧
    (∀ j : Fin 64, j < 3 → (somePool.records[j]).pending = false) ∧ (3 : Byte).toNat = CueList.done.code ∧ 4 ≤ (4 : Byte).toNat := by
  decide

theorem test_hyp_walk : walking.cues.ok ∧ 0 ∈ walking.cues.armed ∧ (walking.cues.records[0]).content.fires 9 = true ∧
    (walking.cues.records[1]).content.fires 9 = false ∧ (walking.cues.records[0]).content.repeats = false ∧
    2 ∈ walking.cues.armed ∧ (walking.cues.records[2]).content.fires 9 = true ∧ (walking.cues.records[2]).content.repeats = true :=
  ⟨by unfold CuePool.ok; exact ⟨by decide, by decide⟩, by decide⟩
theorem test_hyp_actions : State.reset.banks.swap = none ∧ swapping.banks.swap.isSome = true ∧ withPool.cues.ok ∧
    1 ∈ withPool.cues.held ∧ 3 ∉ withPool.cues.held := ⟨by decide, by decide, test_hyp_alive_cuesOk, by decide, by decide⟩

end Sys2Proof.Tests
end

/-! The phase error of a measurement (spec/02, R28): its range, and that the engine keeps what the update made of it
whatever transition follows. -/

namespace Sys2Proof.Machine

/-! ## The distance folded into one nominal line -/

/-- The phase error before its clamp: signed, with a remainder of exactly half a line kept positive (R28, steps 1 and 2). -/
def foldDistance (ln x : Nat) : Int := if x % ln ≤ ln / 2 then ((x % ln : Nat) : Int) else ((x % ln : Nat) : Int) - ln

theorem foldError_eq_clampInt_foldDistance (ln x : Nat) : foldError ln x = clampInt (-4095) 4095 (foldDistance ln x) := rfl

theorem foldError_natAbs_le (ln x : Nat) : (foldError ln x).natAbs ≤ 4095 :=
  clampInt_natAbs 4095 (foldDistance ln x)

theorem foldDistance_bounds {ln : Nat} (h : 0 < ln) (x : Nat) :
    -(((ln - 1) / 2 : Nat) : Int) ≤ foldDistance ln x ∧ foldDistance ln x ≤ ((ln / 2 : Nat) : Int) := by
  have hr : x % ln < ln := Nat.mod_lt x h
  unfold foldDistance
  split <;> constructor <;> omega

theorem foldDistance_bounds_s625 (x : Nat) :
    -12287 ≤ foldDistance (lnom .s625) x ∧ foldDistance (lnom .s625) x ≤ 12288 :=
  foldDistance_bounds (show 0 < lnom .s625 by decide) x

theorem foldDistance_bounds_s525 (x : Nat) :
    -12202 ≤ foldDistance (lnom .s525) x ∧ foldDistance (lnom .s525) x ≤ 12202 :=
  foldDistance_bounds (show 0 < lnom .s525 by decide) x

/-! ## What a measurement leaves in the loop -/

@[simp] theorem Engine.takeStep_lock (e : Engine) (st : Option Int) : (e.takeStep st).lock = e.lock := by
  rw [Engine.takeStep_eq]
@[simp] theorem Engine.takeStep_wLock (e : Engine) (st : Option Int) : (e.takeStep st).wLock = e.wLock := by
  rw [Engine.takeStep_eq]
@[simp] theorem Engine.takeStep_wDrop (e : Engine) (st : Option Int) : (e.takeStep st).wDrop = e.wDrop := by
  rw [Engine.takeStep_eq]
@[simp] theorem Engine.takeStep_lockRun (e : Engine) (st : Option Int) : (e.takeStep st).lockRun = e.lockRun := by
  rw [Engine.takeStep_eq]
@[simp] theorem Engine.takeStep_dropRun (e : Engine) (st : Option Int) : (e.takeStep st).dropRun = e.dropRun := by
  rw [Engine.takeStep_eq]

/-- The runs keep the phase error, I and K. -/
theorem Engine.countRun_keeps_loop (e : Engine) :
    e.countRun.e = e.e ∧ e.countRun.i = e.i ∧ e.countRun.k = e.k := by
  rw [Engine.countRun_eq]
  exact ⟨rfl, rfl, rfl⟩

/-- The transition after an update, entry to LOCKED and drop of lock alike, keeps the phase error, I and K. -/
theorem State.testUpdate_keeps_loop (s : State) :
    s.testUpdate.1.engine.e = s.engine.e ∧ s.testUpdate.1.engine.i = s.engine.i ∧
      s.testUpdate.1.engine.k = s.engine.k := by
  obtain h | ⟨h, -⟩ | ⟨h, -⟩ := s.testUpdate_cases
  · rw [h]
    exact ⟨rfl, rfl, rfl⟩
  · rw [h, State.enterLocked_engine]
    exact ⟨rfl, rfl, rfl⟩
  · rw [h, State.dropLock_engine]
    exact ⟨rfl, rfl, rfl⟩

/-- A measurement keeps the clamped phase error, and the filter's I and K are formed with it (R28, R33). -/
theorem State.measure_loop (s : State) (l : RefLine) {g : Stamp}
    (h : l.synthetic = false ∧ (s.engine.lock = .acquire ∨ s.engine.lock = .locked))
    (hg : (s.engine.takeStep l.step).measureFrom ((s.engine.takeStep l.step).target l.stamp) = some g) :
    let e0 := s.engine.takeStep l.step
    let err := foldError (lnom s.timing.standard) (e0.target l.stamp - g).toNat
    (s.measure l).engine.e = err ∧ (s.measure l).engine.i = e0.nextI err ∧
      (s.measure l).engine.k = e0.clampK (e0.rawK err) := by
  intro e0 err
  have measured := s.measure_some l h hg
  dsimp only at measured
  rw [measured, State.postAll_engine]
  obtain ⟨he, hi, hk⟩ :=
    State.testUpdate_keeps_loop ((s.setEngine (e0.update err).countRun).postAll (e0.limitPosts err))
  rw [he, hi, hk, State.postAll_engine, State.setEngine_engine]
  exact (e0.update err).countRun_keeps_loop

/-- In ACQUIRE the lock run is judged on the phase error of the update (R51). -/
theorem Engine.update_countRun_lockRun {e : Engine} (h : e.lock = .acquire) (err : Int) :
    (e.update err).countRun.lockRun = if err.natAbs ≤ e.wLock then countTo 1023 e.lockRun else 0 :=
  (e.update err).countRun_lockRun_acquire h

/-- In LOCKED the drop run is judged on the phase error of the update (R52). -/
theorem Engine.update_countRun_dropRun {e : Engine} (h : e.lock = .locked) (err : Int) :
    (e.update err).countRun.dropRun = if e.wDrop < err.natAbs then countTo 255 e.dropRun else 0 :=
  (e.update err).countRun_dropRun_locked h

/-! ## The obligation -/

/-- Settles O33: the fold's range by the remainder's, the loop's values by what the update sets and no transition undoes, and
the runs by their count after an update. -/
theorem phaseErrorIsFoldedAndClamped : Obligations.PhaseErrorIsFoldedAndClamped := by
  unfold Obligations.PhaseErrorIsFoldedAndClamped
  refine ⟨fun std x => ⟨foldError_eq_clampInt_foldDistance (lnom std) x, foldError_natAbs_le (lnom std) x, ?_, ?_⟩, ?_⟩
  · rintro rfl
    exact foldDistance_bounds_s625 x
  · rintro rfl
    exact foldDistance_bounds_s525 x
  · intro s l g real active e0 hg err updated
    obtain ⟨he, hi, hk⟩ := s.measure_loop l ⟨real, active⟩ hg
    refine ⟨he, hi, hk, fun acquire => ?_, fun locked => ?_⟩
    · have run := Engine.update_countRun_lockRun (e := e0) ((s.engine.takeStep_lock l.step).trans acquire) err
      rwa [Engine.takeStep_wLock, Engine.takeStep_lockRun] at run
    · have run := Engine.update_countRun_dropRun (e := e0) ((s.engine.takeStep_lock l.step).trans locked) err
      rwa [Engine.takeStep_wDrop, Engine.takeStep_dropRun] at run

end Sys2Proof.Machine

/-! The mix of the video with the colour (spec/05, R95 and R96): the amount a level α moves a component, its range, and what
follows for a keyed component, a brightened luminance and the limiting of legal colours. -/

namespace Sys2Proof.Machine

/-! ## The share of a difference -/

/-- The share α/256 of a difference, rounded to the nearest integer, a midpoint upward: what the mix adds to the video. -/
def mixShare (d : Int) (α : Nat) : Int := (d * α + 128) / 256

theorem mixReplace_eq_add_mixShare (v c : Byte) (α : Nat) :
    mixReplace v c α = v.toNat + mixShare ((c.toNat : Int) - v.toNat) α := rfl

theorem mixAdd_eq_add_mixShare (v c : Byte) (α : Nat) : mixAdd v c α = v.toNat + mixShare ((c.toNat : Int) - 16) α := rfl

@[simp] theorem mixShare_zero_level (d : Int) : mixShare d 0 = 0 := by simp [mixShare]

@[simp] theorem mixShare_zero_difference (α : Nat) : mixShare 0 α = 0 := by simp [mixShare]

@[simp] theorem mixShare_full_level (d : Int) : mixShare d 256 = d := by
  unfold mixShare
  omega

theorem mixShare_of_nonneg {d : Int} {α : Nat} (hd : 0 ≤ d) (hα : α ≤ 256) : 0 ≤ mixShare d α ∧ mixShare d α ≤ d := by
  have lower : 0 ≤ d * α := Int.mul_nonneg hd (Int.natCast_nonneg α)
  have upper : d * α ≤ d * 256 := Int.mul_le_mul_of_nonneg_left (by omega) hd
  unfold mixShare
  omega

theorem mixShare_of_nonpos {d : Int} {α : Nat} (hd : d ≤ 0) (hα : α ≤ 256) : d ≤ mixShare d α ∧ mixShare d α ≤ 0 := by
  have upper : d * α ≤ 0 := Int.mul_nonpos_of_nonpos_of_nonneg hd (Int.natCast_nonneg α)
  have lower : d * 256 ≤ d * α := Int.mul_le_mul_of_nonpos_left hd (by omega)
  unfold mixShare
  omega

/-! ## A component keyed (R95) -/

theorem mixReplace_between (v c : Byte) {α : Nat} (hα : α ≤ 256) :
    (min v.toNat c.toNat : Int) ≤ mixReplace v c α ∧ mixReplace v c α ≤ (max v.toNat c.toNat : Int) := by
  rw [mixReplace_eq_add_mixShare]
  obtain brighter | darker := Int.le_total 0 ((c.toNat : Int) - v.toNat)
  · have share := mixShare_of_nonneg brighter hα
    omega
  · have share := mixShare_of_nonpos darker hα
    omega

@[simp] theorem mixReplace_zero_level (v c : Byte) : mixReplace v c 0 = v.toNat := by
  simp [mixReplace_eq_add_mixShare]

@[simp] theorem mixReplace_full_level (v c : Byte) : mixReplace v c 256 = c.toNat := by
  simp [mixReplace_eq_add_mixShare]

/-- A range that holds both components holds the keyed one. -/
theorem mixReplace_mem_range {v c : Byte} {α a b : Nat} (hα : α ≤ 256) (hv : a ≤ v.toNat ∧ v.toNat ≤ b)
    (hc : a ≤ c.toNat ∧ c.toNat ≤ b) : (a : Int) ≤ mixReplace v c α ∧ mixReplace v c α ≤ b := by
  have between := mixReplace_between v c hα
  omega

/-! ## The luminance brightened (R96) -/

theorem mixAdd_bounds (v : Byte) {c : Byte} {α : Nat} (hα : α ≤ 256) (hlow : 16 ≤ c.toNat) (hhigh : c.toNat ≤ 235) :
    (v.toNat : Int) ≤ mixAdd v c α ∧ mixAdd v c α ≤ (v.toNat : Int) + 219 := by
  have share := mixShare_of_nonneg (show 0 ≤ (c.toNat : Int) - 16 by omega) hα
  rw [mixAdd_eq_add_mixShare]
  omega

theorem mixAdd_black (v : Byte) {c : Byte} (α : Nat) (h : c.toNat = 16) : mixAdd v c α = v.toNat := by
  simp [mixAdd_eq_add_mixShare, h]

theorem mixAdd_white_full_level (v : Byte) {c : Byte} (h : c.toNat = 235) : mixAdd v c 256 = (v.toNat : Int) + 219 := by
  simp [mixAdd_eq_add_mixShare, h]

/-! ## The limiting (R97) -/

/-- Components within their ranges are left as they are. -/
theorem limitSample_unchanged {raw : Int × Int × Int} (hy : 16 ≤ raw.1 ∧ raw.1 ≤ 235)
    (hcb : 16 ≤ raw.2.1 ∧ raw.2.1 ≤ 240) (hcr : 16 ≤ raw.2.2 ∧ raw.2.2 ≤ 240) : (limitSample raw).2 = false := by
  simp [limitSample, clampInt_of_mem hy.1 hy.2, clampInt_of_mem hcb.1 hcb.2, clampInt_of_mem hcr.1 hcr.2]

/-- REPLACE of legal video and a legal colour needs no limiting, for each component stays within its range. -/
theorem limitSample_replace_unchanged {v c : Sample} {α : Nat} (hα : α ≤ 256) (hv : legal v) (hc : legal c) :
    (limitSample (mixSample v c α .replace)).2 = false := by
  obtain ⟨vy, vcb, vcr⟩ := hv
  obtain ⟨cy, ccb, ccr⟩ := hc
  exact limitSample_unchanged (mixReplace_mem_range hα vy cy) (mixReplace_mem_range hα vcb ccb)
    (mixReplace_mem_range hα vcr ccr)

/-! ## The obligation -/

/-- Settles O49: the share of a difference lies between 0 and the difference, so a keyed component lies between the video's and
the colour's, and the luminance is raised by at most the colour's distance from black. -/
theorem replaceAndAddMixVideoWithColour : Obligations.ReplaceAndAddMixVideoWithColour := by
  unfold Obligations.ReplaceAndAddMixVideoWithColour
  refine ⟨fun v c α hα => ?_, fun v c α hα => ⟨rfl, limitSample_replace_unchanged hα⟩, fun v c α hα hlow hhigh => ?_⟩
  · obtain ⟨lower, upper⟩ := mixReplace_between v c hα
    refine ⟨rfl, lower, upper, ?_, ?_⟩
    · rintro rfl
      exact mixReplace_zero_level v c
    · rintro rfl
      exact mixReplace_full_level v c
  · obtain ⟨lower, upper⟩ := mixAdd_bounds v.y hα hlow hhigh
    refine ⟨rfl, lower, upper, mixAdd_black v.y α, ?_⟩
    rintro white rfl
    exact mixAdd_white_full_level v.y white

end Sys2Proof.Machine

/-! The report unit's requests (spec/09, R157 to R164): what its judgement leaves, how a taken request is answered, and the
clearing and replacing of its sets. -/

namespace Sys2Proof.Machine

/-! ## ATTN, bit by bit (R165) -/

theorem and_ne_zero_iff_getLsbD {w : Nat} (x y : BitVec w) :
    x &&& y ≠ 0 ↔ ∃ n, x.getLsbD n = true ∧ y.getLsbD n = true := by
  constructor
  · intro shared
    by_contra apart
    refine shared (BitVec.eq_of_getLsbD_eq fun n _ => ?_)
    have noBit : ¬((x &&& y).getLsbD n = true) := fun both => apart ⟨n, by simpa using both⟩
    simpa using noBit
  · rintro ⟨n, hx, hy⟩ empty
    simpa [hx, hy] using congrArg (fun z => z.getLsbD n) empty

theorem ReportUnit.queueCalls_iff (r : ReportUnit) (q : Fin 4) :
    r.queueCalls q = true ↔ r.queueEnables.getLsbD q = true ∧ r.queues[q] ≠ [] := by
  simp [ReportUnit.queueCalls]

theorem ReportUnit.calls_iff (r : ReportUnit) :
    r.calls = true ↔
      (∃ n, r.latched.getLsbD n = true ∧ r.condEnables.getLsbD n = true) ∨
      (∃ q : Fin 4, r.queueEnables.getLsbD q = true ∧ r.queues[q] ≠ []) := by
  have queues : (∃ q, r.queueCalls q = true) ↔
      r.queueCalls 0 = true ∨ r.queueCalls 1 = true ∨ r.queueCalls 2 = true ∨ r.queueCalls 3 = true := by
    simp [Fin.exists_fin_succ]
  simp only [ReportUnit.calls, Bool.or_eq_true, bne_iff_ne, and_ne_zero_iff_getLsbD, ← ReportUnit.queueCalls_iff, queues,
    or_assoc]

/-! ## The judgement and the kept property of the report unit (R160, R165) -/

/-- A set that holds every condition whose cause holds gains nothing from the causes. -/
theorem State.or_causes_of_latched (s : State)
    (h : ∀ n, s.causes.getLsbD n = true → s.reports.latched.getLsbD n = true) :
    s.reports.latched ||| s.causes = s.reports.latched := by
  refine BitVec.eq_of_getLsbD_eq fun n _ => ?_
  rw [BitVec.getLsbD_or, Bool.or_eq_left_iff_imp]
  exact h n

theorem State.settle_of_reportsOk (s : State) (ok : s.reportsOk) : s.settle = s := by
  obtain ⟨-, latched, attn⟩ := ok
  exact s.settle_of_judged (s.or_causes_of_latched latched) (Bool.eq_iff_iff.mpr (attn.trans s.reports.calls_iff.symm))

/-- The judgement makes the conditions and ATTN exact whatever the event left, so that only the queues' bound is asked. -/
theorem State.settle_reportsOk (s : State) (bound : ∀ q : Fin 4, (s.reports.queues[q]).length ≤ 24) :
    s.settle.reportsOk := by
  refine ⟨bound, fun n cause => ?_, ?_⟩
  · rw [State.settle_latched, BitVec.getLsbD_or, ← State.settle_causes, cause, Bool.or_true]
  · rw [State.settle_attn]
    exact s.settle.reports.calls_iff

/-! ## A taken request and its reply (R172, R173) -/

theorem State.replied_eq_close (s : State) (ok : s.reportsOk) (kind : Byte) (status : Status) (results : List Byte) :
    s.replied kind status results = s.close kind (kind :: status.code :: results) :=
  State.settle_of_reportsOk _ ok

theorem State.replied_reportsOk (s : State) (bound : ∀ q : Fin 4, (s.reports.queues[q]).length ≤ 24) (kind : Byte)
    (status : Status) (results : List Byte) : (s.replied kind status results).reportsOk :=
  State.settle_reportsOk _ bound

theorem State.replied_latched (s : State) (kind : Byte) (status : Status) (results : List Byte) :
    (s.replied kind status results).reports.latched = s.reports.latched ||| s.causes := rfl

/-- The causes are the classifier's and the lock engine's. -/
theorem State.setReports_causes (s : State) (r : ReportUnit) : (s.setReports r).causes = s.causes := rfl

section
variable (s : State) {kind : Byte} {params : List Byte} (handler : State → Answer) (taken : s.takes kind params)
include taken

theorem State.request_okay {t : State} {results : List Byte} (answer : handler s = t.okay results) :
    s.request kind params handler = .next (t.replied kind .ok results) := by
  obtain ⟨fits, completes⟩ := taken
  rw [s.request_taken handler fits completes, answer]
  rfl

/-- With conditions and ATTN exact already, the judgement after an answer that changes nothing changes nothing either. -/
theorem State.request_unchanged (ok : s.reportsOk) {status : Status} {results : List Byte}
    (answer : handler s = ⟨s, status, results⟩) :
    s.request kind params handler = .next (s.close kind (kind :: status.code :: results)) := by
  obtain ⟨fits, completes⟩ := taken
  rw [s.request_taken handler fits completes, answer]
  exact congrArg Host.Outcome.next (s.replied_eq_close ok kind status results)

end

/-! ## The queue a request names, and the answers (R157 to R159) -/

theorem bytesOf_one_eq_ofNat (v : Nat) : bytesOf 1 v = [BitVec.ofNat 8 v] := rfl

theorem fields_one (v : Byte) : fields [1] [v] = some [v.toNat] := by
  simp [fields, beNat_one]

theorem queueOf_none {v : Byte} (h : 4 ≤ v.toNat) : queueOf [v] = none := by
  rw [queueOf, fields_one]
  exact indexBelow_none h

theorem queueOf_some {v : Byte} {q : Fin 4} (h : v.toNat = q.val) : queueOf [v] = some q := by
  rw [queueOf, fields_one, h]
  exact indexBelow_val q

section
variable (s : State) {ps : List Byte}

theorem answerReportPeek_badQueue (h : queueOf ps = none) : answerReportPeek ps s = s.refuse .badParam := by
  rw [answerReportPeek, h]

theorem answerReportTake_badQueue (h : queueOf ps = none) : answerReportTake ps s = s.refuse .badParam := by
  rw [answerReportTake, h]

theorem answerReportFlush_badQueue (h : queueOf ps = none) : answerReportFlush ps s = s.refuse .badParam := by
  rw [answerReportFlush, h]

variable {q : Fin 4} (named : queueOf ps = some q)
include named

theorem answerReportPeek_empty (h : s.reports.queues[q] = []) : answerReportPeek ps s = s.refuse .empty := by
  simp only [answerReportPeek, named, h]

theorem answerReportTake_empty (h : s.reports.queues[q] = []) : answerReportTake ps s = s.refuse .empty := by
  simp only [answerReportTake, named, h]

theorem answerReportPeek_oldest {r : Report} {rest : List Report} (h : s.reports.queues[q] = r :: rest) :
    answerReportPeek ps s = s.okay (r.bytes ++ [BitVec.ofNat 8 (rest.length + 1)]) := by
  simp only [answerReportPeek, named, h, bytesOf_one_eq_ofNat]

theorem answerReportTake_oldest {r : Report} {rest : List Report} (h : s.reports.queues[q] = r :: rest) :
    answerReportTake ps s =
      (s.setReports (s.reports.setQueue q rest)).okay (r.bytes ++ [BitVec.ofNat 8 rest.length]) := by
  simp only [answerReportTake, named, h, bytesOf_one_eq_ofNat]

theorem answerReportFlush_all :
    answerReportFlush ps s =
      (s.setReports (s.reports.setQueue q [])).okay [BitVec.ofNat 8 (s.reports.queues[q]).length] := by
  simp only [answerReportFlush, named, bytesOf_one_eq_ofNat]

end

/-! ## Clearing conditions (R162) and replacing enables (R164) -/

theorem fields_two (a b : Byte) : fields [2] [a, b] = some [256 * a.toNat + b.toNat] := by
  simp [fields, beNat_two]

theorem fields_two_one (a b q : Byte) : fields [2, 1] [a, b, q] = some [256 * a.toNat + b.toNat, q.toNat] := by
  simp [fields, beNat_one, beNat_two]

/-- The latched set that steps 2 and 3 of R162 leave. -/
def State.clearedSet (s : State) (mask : BitVec 11) : BitVec 11 := (s.reports.latched &&& ~~~mask) ||| (s.causes &&& mask)

theorem answerConditions_eq (s : State) (a b : Byte) :
    answerConditions [a, b] s =
      (s.setReports { s.reports with latched := s.clearedSet (BitVec.ofNat 11 (256 * a.toNat + b.toNat)) }).okay
        (bytesOf 2 s.reports.latched.toNat ++ bytesOf 1 s.causes.toNat) := by
  rw [answerConditions, fields_two]
  rfl

theorem answerSetAttention_eq (s : State) (a b q : Byte) :
    answerSetAttention [a, b, q] s =
      (s.setReports { s.reports with
        condEnables := BitVec.ofNat 11 (256 * a.toNat + b.toNat), queueEnables := BitVec.ofNat 4 q.toNat }).okay
        (bytesOf 2 (BitVec.ofNat 11 (256 * a.toNat + b.toNat)).toNat ++ bytesOf 1 (BitVec.ofNat 4 q.toNat).toNat) := by
  rw [answerSetAttention, fields_two_one]

/-- The judgement that follows latches every cause, and so absorbs what step 3 latched again. -/
theorem State.clearedSet_or_causes (s : State) (mask : BitVec 11) (n : Nat) :
    (s.clearedSet mask ||| s.causes).getLsbD n =
      ((s.reports.latched.getLsbD n && !mask.getLsbD n) || s.causes.getLsbD n) := by
  have absorbed : s.clearedSet mask ||| s.causes = (s.reports.latched &&& ~~~mask) ||| s.causes := by
    rw [State.clearedSet, BitVec.or_assoc]
    congr 1
    refine BitVec.eq_of_getLsbD_eq fun i _ => ?_
    rw [BitVec.getLsbD_or, BitVec.getLsbD_and, Bool.or_eq_right_iff_imp, Bool.and_eq_true]
    exact And.left
  rw [absorbed]
  by_cases inSet : n < 11
  · simp [inSet]
  · simp [BitVec.getLsbD_of_ge, Nat.le_of_not_lt inSet]

/-! ## The obligations -/

/-- Settles O18, answer by answer: after a refusal or a PEEK the judgement finds nothing changed, so the receiver's closing is
all; TAKE and FLUSH are judged on the queue they leave. -/
theorem queueRequestsShowTakeAndFlush : Obligations.QueueRequestsShowTakeAndFlush := by
  unfold Obligations.QueueRequestsShowTakeAndFlush
  intro s v ok
  refine ⟨fun taken => ⟨fun high => ?_, fun q hv empty => ?_, fun q r rest hv oldest => ?_⟩,
    fun taken => ⟨fun high => ?_, fun q hv empty => ?_, fun q r rest hv oldest => ?_⟩,
    fun taken => ⟨fun high => ?_, fun q hv => ?_⟩⟩
  · exact s.request_unchanged _ taken ok (answerReportPeek_badQueue s (queueOf_none high))
  · exact s.request_unchanged _ taken ok (answerReportPeek_empty s (queueOf_some hv) empty)
  · exact s.request_unchanged _ taken ok (answerReportPeek_oldest s (queueOf_some hv) oldest)
  · exact s.request_unchanged _ taken ok (answerReportTake_badQueue s (queueOf_none high))
  · exact s.request_unchanged _ taken ok (answerReportTake_empty s (queueOf_some hv) empty)
  · exact s.request_okay _ taken (answerReportTake_oldest s (queueOf_some hv) oldest)
  · exact s.request_unchanged _ taken ok (answerReportFlush_badQueue s (queueOf_none high))
  · exact s.request_okay _ taken (answerReportFlush_all s (queueOf_some hv))

/-- Settles O19: the answer is formed from the set before the clearing, and the judgement adds to the cleared set the causes,
which no request changes. -/
theorem conditionsReadsThenClears : Obligations.ConditionsReadsThenClears := by
  unfold Obligations.ConditionsReadsThenClears
  intro s a b ok taken
  obtain ⟨bound, -, -⟩ := ok
  refine ⟨_, s.request_okay _ taken (answerConditions_eq s a b), rfl, rfl, rfl, ?_, rfl, rfl, rfl, ?_⟩
  · rw [State.replied_latched, State.setReports_causes]
    exact s.clearedSet_or_causes _
  · apply State.replied_reportsOk
    exact bound

/-- Settles O20: the answer replaces the enables alone; every cause is latched already, so the judgement changes no condition
and sets ATTN by the new enables. -/
theorem setAttentionReplacesEnables : Obligations.SetAttentionReplacesEnables := by
  unfold Obligations.SetAttentionReplacesEnables
  intro s a b q ok taken
  obtain ⟨bound, latched, -⟩ := ok
  refine ⟨_, s.request_okay _ taken (answerSetAttention_eq s a b q), rfl, rfl, rfl, rfl, rfl, ?_, rfl, ?_⟩
  · rw [State.replied_latched, State.setReports_causes]
    exact s.or_causes_of_latched latched
  · apply State.replied_reportsOk
    exact bound

end Sys2Proof.Machine

/-! The frames the link sends (spec/10, R167) and ECHO (R175): the layout and the sum of every reply frame, and the reply that
gives the parameters back. -/

namespace Sys2Proof.Machine

/-! ## Reply frames (R167) -/

theorem replyFrame_eq (body : List Byte) :
    replyFrame body =
      0xD5 :: BitVec.ofNat 8 body.length :: (body ++ [checkByte (BitVec.ofNat 8 body.length) body]) := rfl

/-- The length byte starts the sum that the check byte completes. -/
theorem checkedBytes_sum (n : Byte) (body : List Byte) : (n :: (body ++ [checkByte n body])).foldl (· + ·) 0 = 0 :=
  calc (n :: (body ++ [checkByte n body])).foldl (· + ·) 0
      = body.foldl (· + ·) (0 + n) + checkByte n body := by
        rw [List.foldl_cons, List.foldl_append, List.foldl_cons, List.foldl_nil]
    _ = body.foldl (· + ·) n + checkByte n body := by rw [BitVec.ofNat_eq_ofNat, BitVec.zero_add]
    _ = 0 := checkByte_sum n body

/-- The start byte takes no part in the sum. -/
theorem replyFrame_tail_sum (body : List Byte) : (replyFrame body).tail.foldl (· + ·) 0 = 0 := by
  rw [replyFrame_eq, List.tail_cons]
  exact checkedBytes_sum _ body

theorem replyFrame_length_byte (body : List Byte) : (replyFrame body)[1]? = some (BitVec.ofNat 8 body.length) := by
  rw [replyFrame_eq, List.getElem?_cons_succ, List.getElem?_cons_zero]

theorem State.close_reply (s : State) (kind : Byte) (body : List Byte) :
    (s.close kind body).link.reply = replyFrame body := by
  rw [State.close_link]

/-! ## ECHO (R175) -/

theorem exec_echo (s : State) (params : List Byte) :
    exec (.echo params) s = s.request 0x01 params fun t => t.okay params := rfl

/-- Settles O21: the answer of ECHO leaves the state as it was, so that the receiver closes and the judgement finds nothing to
change; the reply's body is the request's with the status byte joined; and the check byte completes the sum of every frame. -/
theorem echoReturnsItsParametersInCheckedFrame : Obligations.EchoReturnsItsParametersInCheckedFrame := by
  unfold Obligations.EchoReturnsItsParametersInCheckedFrame
  refine ⟨fun s ps ok taken => ⟨?executed, ?sent, ?length⟩, fun body => ⟨⟨_, replyFrame_eq body⟩, replyFrame_tail_sum body⟩⟩
  case executed =>
    have answer : s.okay ps = ⟨s, .ok, ps⟩ := rfl
    rw [exec_echo]
    exact s.request_unchanged (fun t => t.okay ps) taken ok answer
  case sent => exact s.close_reply _ _
  case length => exact replyFrame_length_byte _

end Sys2Proof.Machine

/-! What a change of one unit keeps: the properties that the steps are claimed to keep, gathered unit by unit, so that each
operation of the part is judged once for all of them. -/

namespace Sys2Proof.Machine

/-! ## The properties of one unit -/

/-- The ranges of the loop about K0 (R28, R30, R33; Table 2-H). -/
def Engine.inRange (e : Engine) : Prop :=
  (e.k0 ≤ e.k + e.kspan ∧ e.k ≤ e.k0 + e.kspan) ∧ e.i.natAbs ≤ e.kspan ∧ e.s.natAbs ≤ 8191 ∧
    (e.profile = .broadcast → e.s = 0) ∧ e.e.natAbs ≤ 4095 ∧ e.history.length ≤ 3

/-- A change of the engine's values that moves neither K0 nor Kspan and stays in the ranges. -/
def Engine.loopKept (e e' : Engine) : Prop := e'.k0 = e.k0 ∧ e'.kspan = e.kspan ∧ (e.inRange → e'.inRange)

theorem Engine.loopKept_refl (e : Engine) : e.loopKept e := ⟨rfl, rfl, id⟩

theorem Engine.loopKept_trans {a b c : Engine} (h₁ : a.loopKept b) (h₂ : b.loopKept c) : a.loopKept c := by
  obtain ⟨k₁, span₁, range₁⟩ := h₁
  obtain ⟨k₂, span₂, range₂⟩ := h₂
  exact ⟨k₂.trans k₁, span₂.trans span₁, range₂ ∘ range₁⟩

theorem State.loopOk_iff (s : State) : s.loopOk ↔
    (320 ≤ s.timing.lpix ∧ s.timing.lpix ≤ 1400) ∧ s.engine.k0 = nominalIncrement s.timing.standard s.timing.lpix ∧
      s.engine.kspan = s.engine.k0 / 64 ∧ s.engine.inRange := Iff.rfl

/-- The counts, the average and the line number of the classifier under a standard (Table 1-B; R4, R11, R14). -/
def Classifier.inRange (std : Standard) (c : Classifier) : Prop :=
  c.synthCount ≤ 63 ∧ c.badCount ≤ 255 ∧ c.wrongRun ≤ 4 ∧
    ((c.lavg : Int) - lnom std).natAbs ≤ 3 * lnom std / 100 ∧
    (8 ≤ c.wn ∧ c.wn ≤ 128 ∧ c.wn ≤ c.ww ∧ c.ww ≤ 768 ∧ 4 ≤ c.nloss ∧ c.nloss ≤ 63 ∧ c.b ≤ 31) ∧
    ∀ k, c.numbering = .numbered k → 1 ≤ k.line ∧ k.line < c.flywheelLimit std k.parity

theorem State.classifierOk_iff (s : State) : s.classifierOk ↔ s.classifier.inRange s.timing.standard := Iff.rfl

/-- REF_ABSENT exactly in SEARCH, where nothing is numbered (R4, R10). -/
def Classifier.searchOk (c : Classifier) : Prop :=
  (c.refAbsent = true ↔ c.tracking = .search) ∧ (c.tracking = .search → c.numbering = .unnumbered)

/-- The lock states that a tracked reference alone brings. -/
def LockState.tracks (l : LockState) : Prop := l = .acquire ∨ l = .locked

theorem State.trackingOk_iff (s : State) :
    s.trackingOk ↔ s.classifier.searchOk ∧ (s.classifier.tracking = .search → ¬s.engine.lock.tracks) := by
  unfold State.trackingOk Classifier.searchOk LockState.tracks
  tauto

/-- A store that is IDLE is empty (R68). -/
def Store.idleEmpty (st : Store) : Prop :=
  st.active = false → (∀ i, st.role i = .free) ∧ st.shown = none ∧ st.sampling = none

/-- A change of the store's contents that keeps the slots' form and the activity. -/
def Store.contentsKept (st st' : Store) : Prop :=
  st'.active = st.active ∧ (st.idleEmpty → st'.idleEmpty) ∧ (st.slotsOk → st'.slotsOk)

theorem Store.contentsKept_refl (st : Store) : st.contentsKept st := ⟨rfl, id, id⟩

theorem Store.contentsKept_trans {a b c : Store} (h₁ : a.contentsKept b) (h₂ : b.contentsKept c) : a.contentsKept c := by
  obtain ⟨active₁, empty₁, slots₁⟩ := h₁
  obtain ⟨active₂, empty₂, slots₂⟩ := h₂
  exact ⟨active₂.trans active₁, empty₂ ∘ empty₁, slots₂ ∘ slots₁⟩

/-- Every queue within its room (R155). -/
def ReportUnit.bounded (r : ReportUnit) : Prop := ∀ q : Fin 4, (r.queues[q]).length ≤ queueRoom

/-! ## The properties of the whole state -/

/-- Every kept property but those of the position in the frame, the link and the report unit's judgement, kept from one state
to another, and the queue of commands left alone. -/
structure KeepsUnits (s t : State) : Prop where
  pending : t.pending = s.pending
  queues : s.reports.bounded → t.reports.bounded
  lock : s.lockOk → t.lockOk
  tracking : s.trackingOk → t.trackingOk
  classifier : s.classifierOk → t.classifierOk
  slots : s.store.slotsOk → t.store.slotsOk
  loop : s.loopOk → t.loopOk
  mixer : s.mixerOk → t.mixerOk
  banks : s.banks.ok → t.banks.ok
  fades : s.fadesOk → t.fadesOk
  cues : s.cues.ok → t.cues.ok

/-- The position in the frame kept with the properties of the units. -/
structure Keeps (s t : State) : Prop extends KeepsUnits s t where
  position : s.positionOk → t.positionOk

theorem KeepsUnits.refl (s : State) : KeepsUnits s s := ⟨rfl, id, id, id, id, id, id, id, id, id, id⟩

theorem KeepsUnits.trans {s t u : State} (a : KeepsUnits s t) (b : KeepsUnits t u) : KeepsUnits s u :=
  ⟨b.pending.trans a.pending, b.queues ∘ a.queues, b.lock ∘ a.lock, b.tracking ∘ a.tracking, b.classifier ∘ a.classifier, b.slots ∘ a.slots,
    b.loop ∘ a.loop, b.mixer ∘ a.mixer, b.banks ∘ a.banks, b.fades ∘ a.fades, b.cues ∘ a.cues⟩

theorem Keeps.refl (s : State) : Keeps s s := ⟨KeepsUnits.refl s, id⟩

theorem Keeps.trans {s t u : State} (a : Keeps s t) (b : Keeps t u) : Keeps s u :=
  ⟨a.toKeepsUnits.trans b.toKeepsUnits, b.position ∘ a.position⟩

/-! ## A change of one unit -/

/-- A change of the report unit within the queues' room, of the link, the stamp, the pulse and the draw counter. -/
theorem Keeps.of_units_eq {s t : State} (queues : s.reports.bounded → t.reports.bounded)
    (units : (t.classifier, t.engine, t.timing, t.store, t.mixer, t.banks, t.fades, t.cues, t.pending) =
      (s.classifier, s.engine, s.timing, s.store, s.mixer, s.banks, s.fades, s.cues, s.pending)) : Keeps s t := by
  simp only [Prod.mk.injEq] at units
  obtain ⟨classifier, engine, timing, store, mixer, banks, fades, cues, pending⟩ := units
  refine ⟨⟨pending, queues, ?_, ?_, ?_, ?_, ?_, ?_, ?_, ?_, ?_⟩, ?_⟩
  · simp only [State.lockOk, engine, store, mixer, imp_self]
  · simp only [State.trackingOk, classifier, engine, imp_self]
  · simp only [State.classifierOk, classifier, timing, imp_self]
  · simp only [store, imp_self]
  · simp only [State.loopOk, engine, timing, imp_self]
  · simp only [State.mixerOk, mixer, timing, imp_self]
  · simp only [banks, imp_self]
  · simp only [State.fadesOk, fades, cues, imp_self]
  · simp only [cues, imp_self]
  · simp only [State.positionOk, timing, imp_self]

theorem Keeps.setPulse (s : State) (p : Pulse) : Keeps s (s.setPulse p) := .of_units_eq id rfl
theorem Keeps.setStamp (s : State) (x : Stamp) : Keeps s (s.setStamp x) := .of_units_eq id rfl
theorem Keeps.setDraw (s : State) (n : Nat) : Keeps s (s.setDraw n) := .of_units_eq id rfl
theorem Keeps.setLink (s : State) (l : Link) : Keeps s (s.setLink l) := .of_units_eq id rfl

theorem Keeps.setReports {s : State} {r : ReportUnit} (h : s.reports.bounded → r.bounded) : Keeps s (s.setReports r) :=
  .of_units_eq h rfl

theorem Keeps.latch (s : State) (n : Nat) : Keeps s (s.latch n) := .setReports id
theorem Keeps.settle (s : State) : Keeps s s.settle := .setReports id

theorem Keeps.post (s : State) (p : Post) : Keeps s (s.post p) :=
  .setReports fun bounded => s.reports.join_bound p.queue _ bounded

theorem Keeps.postAll (s : State) (ps : List Post) : Keeps s (s.postAll ps) := by
  unfold State.postAll
  induction ps generalizing s with
  | nil => exact .refl s
  | cons p ps ih => exact (Keeps.post s p).trans (ih (s.post p))

theorem Keeps.foldl_postAll (s : State) (ws : List (Work × List Post)) :
    Keeps s (ws.foldl (fun t w => t.postAll w.2) s) := by
  induction ws generalizing s with
  | nil => exact .refl s
  | cons w ws ih => exact (Keeps.postAll s w.2).trans (ih (s.postAll w.2))

theorem Keeps.postWork (s : State) (ahead : Option Work) (ws : List (Work × List Post)) : Keeps s (s.postWork ahead ws) :=
  (Keeps.foldl_postAll s _).trans (.setDraw _ _)

/-- A change of the classifier: no fall into SEARCH under a lock state that tracks. -/
theorem Keeps.setClassifier {s : State} {c : Classifier} (search : s.classifier.searchOk → c.searchOk)
    (falls : c.tracking = .search → s.classifier.tracking = .search ∨ ¬s.engine.lock.tracks)
    (range : s.classifier.inRange s.timing.standard → c.inRange s.timing.standard) : Keeps s (s.setClassifier c) := by
  refine ⟨⟨rfl, id, id, fun ok => ?_, range, id, id, id, id, id, id⟩, id⟩
  rw [State.trackingOk_iff] at ok ⊢
  refine ⟨search ok.1, fun h => ?_⟩
  obtain stood | untracked := falls h
  · exact ok.2 stood
  · exact untracked

/-- A change of the engine's values that leaves the lock state alone. -/
theorem Keeps.setEngine {s : State} {e : Engine} (lock : e.lock = s.engine.lock) (unlocked : e.unlocked = s.engine.unlocked)
    (loop : s.engine.loopKept e) : Keeps s (s.setEngine e) := by
  obtain ⟨k0, kspan, range⟩ := loop
  refine ⟨⟨rfl, id, ?_, ?_, id, id, fun ok => ?_, id, id, id, id⟩, id⟩
  · simp only [State.lockOk, State.setEngine_engine, State.setEngine_store, State.setEngine_mixer, lock, unlocked, imp_self]
  · simp only [State.trackingOk, State.setEngine_engine, State.setEngine_classifier, lock, imp_self]
  · rw [State.loopOk_iff] at ok ⊢
    obtain ⟨lpix, nominal, span, inRange⟩ := ok
    exact ⟨lpix, k0.trans nominal, by rw [State.setEngine_engine, kspan, k0]; exact span, range inRange⟩

theorem Keeps.setStore {s : State} {st : Store} (kept : s.store.contentsKept st) : Keeps s (s.setStore st) := by
  obtain ⟨active, empty, slots⟩ := kept
  refine ⟨⟨rfl, id, fun ok => ?_, id, id, slots, id, id, id, id, id⟩, id⟩
  obtain ⟨act, idle, recorded, unlocked⟩ := ok
  exact ⟨by rw [State.setStore_store, active]; exact act, empty idle, recorded, unlocked⟩

/-- A change of the mixer that leaves the recorded lock state alone. -/
theorem Keeps.setMixer {s : State} {m : Mixer} (recorded : m.recorded = s.mixer.recorded)
    (ok : s.timing.latency ≤ 15 → s.mixer.ok → m.ok) : Keeps s (s.setMixer m) := by
  refine ⟨⟨rfl, id, ?_, id, id, id, id, fun h => ⟨h.1, ok h.1 h.2⟩, id, id, id⟩, id⟩
  simp only [State.lockOk, State.setMixer_engine, State.setMixer_store, State.setMixer_mixer, recorded, imp_self]

theorem Keeps.setBanks {s : State} {b : Banks} (ok : s.banks.ok → b.ok) : Keeps s (s.setBanks b) :=
  ⟨⟨rfl, id, id, id, id, id, id, id, ok, id, id⟩, id⟩

theorem Keeps.setFades {s : State} {f : Vector Fade 4} (ok : (∀ g : Fin 4, (s.fades[g]).ok) → ∀ g : Fin 4, (f[g]).ok) :
    Keeps s (s.setFades f) :=
  ⟨⟨rfl, id, id, id, id, id, id, id, id, fun h => ⟨ok h.1, h.2⟩, id⟩, id⟩

theorem Keeps.setCues {s : State} {p : CuePool} (ok : s.cues.ok → p.ok)
    (loads : (∀ i : Fin 64, (s.cues.records[i]).content.action.ok) → ∀ i : Fin 64, (p.records[i]).content.action.ok) :
    Keeps s (s.setCues p) :=
  ⟨⟨rfl, id, id, id, id, id, id, id, id, fun h => ⟨h.1, loads h.2⟩, ok⟩, id⟩

/-- The settings that a timing restart alone changes. -/
def Timing.sameRaster (t t' : Timing) : Prop :=
  (t'.standard, t'.lpix, t'.mode, t'.latency) = (t.standard, t.lpix, t.mode, t.latency)

/-- A change of the timing under one raster; the position is judged apart. -/
theorem KeepsUnits.setTiming {s : State} {t : Timing} (raster : s.timing.sameRaster t) : KeepsUnits s (s.setTiming t) := by
  simp only [Timing.sameRaster, Prod.mk.injEq] at raster
  obtain ⟨standard, lpix, -, latency⟩ := raster
  refine ⟨rfl, id, id, id, ?_, id, ?_, ?_, id, id, id⟩
  · simp only [State.classifierOk, State.setTiming_classifier, State.setTiming_timing, standard, imp_self]
  · simp only [State.loopOk, State.setTiming_engine, State.setTiming_timing, standard, lpix, imp_self]
  · simp only [State.mixerOk, State.setTiming_mixer, State.setTiming_timing, latency, imp_self]

theorem Keeps.setTiming {s : State} {t : Timing} (raster : s.timing.sameRaster t)
    (position : s.positionOk → (s.setTiming t).positionOk) : Keeps s (s.setTiming t) :=
  ⟨.setTiming raster, position⟩

/-- The jam countdown and the load value take no part in any kept property. -/
theorem Keeps.setTiming_jam_load (s : State) (jam : Option Jam) (load : Option Count) :
    Keeps s (s.setTiming { s.timing with jam := jam, load := load }) := .setTiming rfl id

/-! ## A change of lock state (R49, R68, R88) -/

theorem LockState.storeActive_iff (l : LockState) : l.storeActive = true ↔ l.tracks := by
  unfold LockState.tracks
  cases l <;> decide

theorem LockState.isUnlocked_iff (l : LockState) : l.isUnlocked = true ↔ l = .free ∨ l = .acquire ∨ l = .holdover := by
  cases l <;> decide

/-- The slots as power-on and every entry to an IDLE state leave them. -/
theorem Store.slotsOk_of_cleared {st : Store} (slots : st.slots = Vector.replicate 8 Slot.cleared) (shown : st.shown = none)
    (sampling : st.sampling = none) : (∀ i, st.role i = .free) ∧ st.slotsOk := by
  have slot : ∀ i : Fin 8, st.slots[i] = Slot.cleared := fun i => by
    rw [slots, Fin.getElem_fin, Vector.getElem_replicate]
  have role : ∀ i, st.role i = .free := fun i => by
    rw [Store.role, slot]
    rfl
  refine ⟨role, fun i j hi => ?_, fun i => ?_, fun sp hsp => ?_, fun i _ => slot i, fun i => ?_⟩
  · rw [role] at hi
    cases hi
  · rw [role, shown]
    exact ⟨nofun, nofun⟩
  · rw [sampling] at hsp
    cases hsp
  · rw [slot]
    rfl

theorem Store.handed_slotsOk {st : Store} (new : LockState) (ok : st.slotsOk) : (st.handed new).slotsOk := by
  by_cases kept : new.storeActive = true ∧ st.active = true
  · rw [st.handed_kept kept.1 kept.2]
    exact ok
  · obtain ⟨slots, shown, sampling⟩ := st.handed_cleared kept
    exact (Store.slotsOk_of_cleared slots shown sampling).2

theorem Store.handed_idleEmpty (st : Store) (new : LockState) : (st.handed new).idleEmpty := by
  intro idle
  rw [Store.handed_active] at idle
  obtain ⟨slots, shown, sampling⟩ := st.handed_cleared (new := new) (by simp [idle])
  exact ⟨(Store.slotsOk_of_cleared slots shown sampling).1, shown, sampling⟩

/-- After a change of lock state its followers are right whatever they were before. -/
theorem State.changeLock_lockOk (s : State) (new : LockState) (setsK : Bool) (e : Engine) :
    (s.changeLock new setsK e).1.lockOk := by
  refine ⟨?_, ?_, ?_, ?_⟩
  · rw [State.changeLock_store, Store.handed_active, State.changeLock_engine]
    exact new.storeActive_iff
  · rw [State.changeLock_store]
    exact s.store.handed_idleEmpty new
  · rw [State.changeLock_mixer, State.changeLock_engine]
  · rw [State.changeLock_engine]
    exact new.isUnlocked_iff

theorem State.changeLock_timing_jam (s : State) (new : LockState) (setsK : Bool) (e : Engine) :
    ∃ jam, (s.changeLock new setsK e).1.timing = { s.timing with jam := jam } := by
  rw [State.changeLock_timing]
  split <;> exact ⟨_, rfl⟩

/-- A change of lock state, with the values the engine takes: ACQUIRE and LOCKED are entered from each other or in TRACK. -/
theorem Keeps.changeLock (s : State) {new : LockState} (setsK : Bool) {e : Engine}
    (tracked : new.tracks → s.engine.lock.tracks ∨ s.classifier.tracking = .track)
    (loop : s.engine.loopKept e) : Keeps s (s.changeLock new setsK e).1 := by
  obtain ⟨jam, timing⟩ := s.changeLock_timing_jam new setsK e
  obtain ⟨k0, kspan, range⟩ := loop
  refine ⟨⟨State.changeLock_pending .., ?_, fun _ => s.changeLock_lockOk new setsK e, fun ok => ?_, ?_, fun ok => ?_, fun ok => ?_, ?_, ?_, ?_, ?_⟩, ?_⟩
  · rw [State.changeLock_reports]; exact id
  · rw [State.trackingOk_iff] at ok ⊢
    rw [State.changeLock_classifier, State.changeLock_engine]
    refine ⟨ok.1, fun search tracks => ?_⟩
    obtain stood | track := tracked tracks
    · exact ok.2 search stood
    · rw [track] at search
      cases search
  · simp only [State.classifierOk, State.changeLock_classifier, timing, imp_self]
  · rw [State.changeLock_store]
    exact Store.handed_slotsOk new ok
  · rw [State.loopOk_iff] at ok ⊢
    obtain ⟨lpix, nominal, span, inRange⟩ := ok
    rw [State.changeLock_engine, timing]
    exact ⟨lpix, k0.trans nominal, by dsimp only; rw [kspan, k0]; exact span, range inRange⟩
  · simp only [State.mixerOk, State.changeLock_mixer, timing]
    exact id
  · rw [State.changeLock_banks]; exact id
  · simp only [State.fadesOk, State.changeLock_fades, State.changeLock_cues, imp_self]
  · rw [State.changeLock_cues]; exact id
  · simp only [State.positionOk, timing, imp_self]

end Sys2Proof.Machine

/-! What the line store's operations and the lock engine's events keep (spec/02, spec/03, spec/04). -/

namespace Sys2Proof.Machine

/-! ## The slots under the store's operations (R66, R69 to R73) -/

theorem Store.role_eq_of_slots {st st' : Store} (h : st'.slots = st.slots) (i : Fin 8) : st'.role i = st.role i := by
  rw [Store.role, Store.role, h]

/-- The slots' form rests on the slots, the shown slot and the sampling alone. -/
theorem Store.slotsOk_congr {st st' : Store} (slots : st'.slots = st.slots) (shown : st'.shown = st.shown)
    (sampling : st'.sampling = st.sampling) (ok : st.slotsOk) : st'.slotsOk := by
  unfold Store.slotsOk at ok ⊢
  simpa only [Store.role_eq_of_slots slots, slots, shown, sampling] using ok

/-- A change of the settings and the results beside the slots. -/
theorem Store.contentsKept_of_eq {st st' : Store} (active : st'.active = st.active) (slots : st'.slots = st.slots)
    (shown : st'.shown = st.shown) (sampling : st'.sampling = st.sampling) : st.contentsKept st' := by
  refine ⟨active, fun empty idle => ?_, Store.slotsOk_congr slots shown sampling⟩
  rw [active] at idle
  simpa only [Store.role_eq_of_slots slots, shown, sampling] using empty idle

/-- In an ACTIVE store only the slots' form is to be kept. -/
theorem Store.contentsKept_of_active {st st' : Store} (ha : st.active = true) (active : st'.active = st.active)
    (slots : st.slotsOk → st'.slotsOk) : st.contentsKept st' := by
  refine ⟨active, fun _ idle => ?_, slots⟩
  rw [active, ha] at idle
  cases idle

theorem Store.freeSlot_sampling_some {st : Store} {i : Fin 8} {sp : Sampling} (h : (st.freeSlot i).sampling = some sp) :
    st.sampling = some sp ∧ sp.slot ≠ i := by
  change (if st.sampling.map (·.slot) = some i then none else st.sampling) = some sp at h
  split at h
  · cases h
  · rename_i other
    refine ⟨h, fun e => other ?_⟩
    rw [h, ← e]
    rfl

theorem Store.freeSlot_slotsOk {st : Store} {i : Fin 8} (ok : st.slotsOk) (hidden : st.shown ≠ some i) :
    (st.freeSlot i).slotsOk := by
  obtain ⟨unique, shown, sampled, cleared, canonical⟩ := ok
  refine ⟨fun a b ha hb hk => ?_, fun a => ?_, fun sp hsp => ?_, fun a ha => ?_, fun a => ?_⟩
  · rw [Store.freeSlot_role] at ha hb
    rw [Store.freeSlot_slots, Store.freeSlot_slots] at hk
    split at ha
    · cases ha
    · split at hb
      · cases hb
      · rename_i hai hbi
        rw [if_neg hai, if_neg hbi] at hk
        exact unique a b ha hb hk
  · rw [Store.freeSlot_role, Store.freeSlot_shown]
    split
    · rename_i e
      subst e
      exact ⟨nofun, fun h => absurd h hidden⟩
    · exact shown a
  · obtain ⟨hsp, hne⟩ := Store.freeSlot_sampling_some hsp
    rw [Store.freeSlot_role, if_neg hne]
    exact sampled sp hsp
  · rw [Store.freeSlot_role] at ha
    rw [Store.freeSlot_slots]
    split at ha
    · rename_i e
      rw [if_pos e]
    · rename_i e
      rw [if_neg e]
      exact cleared a ha
  · rw [Store.freeSlot_slots]
    split
    · rfl
    · exact canonical a

theorem Store.freeSlots_slotsOk {st : Store} {is : List (Fin 8)} (ok : st.slotsOk) (hidden : ∀ i ∈ is, st.shown ≠ some i) :
    (st.freeSlots is).slotsOk := by
  unfold Store.freeSlots
  induction is generalizing st with
  | nil => exact ok
  | cons i is ih =>
    exact ih (Store.freeSlot_slotsOk ok (hidden i List.mem_cons_self)) fun j hj => hidden j (List.mem_cons_of_mem i hj)

theorem Store.freeSlots_active (st : Store) (is : List (Fin 8)) : (st.freeSlots is).active = st.active := by
  unfold Store.freeSlots
  induction is generalizing st with
  | nil => rfl
  | cons i is ih => exact (ih _).trans (Store.freeSlot_active st i)

/-- A slot that is not shown is no SHOWN one. -/
theorem Store.shown_ne_of_role {st : Store} (ok : st.slotsOk) {i : Fin 8} (h : st.role i ≠ .shown) : st.shown ≠ some i :=
  fun e => h ((ok.2.1 i).mpr e)

theorem Store.freeShown_active (st : Store) : st.freeShown.active = st.active := by
  unfold Store.freeShown
  split <;> rfl

theorem Store.freeShown_shown (st : Store) : st.freeShown.shown = none := by
  unfold Store.freeShown
  split
  · rfl
  · assumption

theorem Store.freeShown_slots (st : Store) (j : Fin 8) :
    st.freeShown.slots[j] = if st.shown = some j then Slot.cleared else st.slots[j] := by
  unfold Store.freeShown
  split
  · rename_i i h
    change (st.freeSlot i).slots[j] = _
    rw [Store.freeSlot_slots, h]
    simp only [Option.some.injEq, eq_comm]
  · rename_i h
    rw [h, if_neg nofun]

theorem Store.freeShown_role (st : Store) (j : Fin 8) :
    st.freeShown.role j = if st.shown = some j then .free else st.role j := by
  rw [Store.role, Store.freeShown_slots]
  split <;> rfl

theorem Store.freeShown_sampling_some {st : Store} {sp : Sampling} (h : st.freeShown.sampling = some sp) :
    st.sampling = some sp ∧ st.shown ≠ some sp.slot := by
  unfold Store.freeShown at h
  split at h
  · rename_i i hi
    obtain ⟨sampled, hne⟩ := Store.freeSlot_sampling_some h
    rw [hi]
    exact ⟨sampled, fun e => hne (Option.some.inj e).symm⟩
  · rename_i hi
    exact ⟨h, hi ▸ nofun⟩

/-- The previous SHOWN slot made FREE: the others keep the slots' form, with none shown. -/
theorem Store.freeShown_slotsOk {st : Store} (ok : st.slotsOk) : st.freeShown.slotsOk := by
  obtain ⟨unique, shown, sampled, cleared, canonical⟩ := ok
  refine ⟨fun a b ha hb hk => ?_, fun a => ?_, fun sp hsp => ?_, fun a ha => ?_, fun a => ?_⟩
  · rw [Store.freeShown_role] at ha hb
    rw [Store.freeShown_slots, Store.freeShown_slots] at hk
    split at ha
    · cases ha
    · split at hb
      · cases hb
      · rename_i hai hbi
        rw [if_neg hai, if_neg hbi] at hk
        exact unique a b ha hb hk
  · rw [Store.freeShown_role, Store.freeShown_shown]
    split
    · exact ⟨nofun, nofun⟩
    · rename_i h
      rw [shown a]
      exact ⟨fun e => absurd e h, nofun⟩
  · obtain ⟨hsp, hne⟩ := Store.freeShown_sampling_some hsp
    rw [Store.freeShown_role, if_neg hne]
    exact sampled sp hsp
  · rw [Store.freeShown_role] at ha
    rw [Store.freeShown_slots]
    split at ha
    · rename_i e
      rw [if_pos e]
    · rename_i e
      rw [if_neg e]
      exact cleared a ha
  · rw [Store.freeShown_slots]
    split
    · rfl
    · exact canonical a

/-- A slot made the SHOWN one of a store that shows none. -/
def Store.present (st : Store) (i : Fin 8) : Store :=
  { st.setSlot i { st.slots[i] with role := .shown } with shown := some i }

theorem Store.found_eq (st : Store) (i : Fin 8) : st.found i = (st.freeShown.present i).freeSlots (st.olderThan i) := rfl

theorem Store.present_slots (st : Store) (i j : Fin 8) :
    (st.present i).slots[j] = if j = i then { st.slots[i] with role := .shown } else st.slots[j] := by
  change (st.setSlot i _).slots[j] = _
  split
  · rename_i e
    subst e
    exact st.setSlot_self j _
  · rename_i e
    exact st.setSlot_ne (Ne.symm e) _

theorem Store.present_role (st : Store) (i j : Fin 8) : (st.present i).role j = if j = i then .shown else st.role j := by
  rw [Store.role, Store.present_slots]
  split <;> rfl

theorem Store.present_slotsOk {st : Store} {i : Fin 8} (ok : st.slotsOk) (dark : st.shown = none) : (st.present i).slotsOk := by
  obtain ⟨unique, shown, sampled, cleared, canonical⟩ := ok
  refine ⟨fun a b ha hb hk => ?_, fun a => ?_, fun sp hsp => ?_, fun a ha => ?_, fun a => ?_⟩
  · rw [Store.present_role] at ha hb
    rw [Store.present_slots, Store.present_slots] at hk
    split at ha
    · cases ha
    · split at hb
      · cases hb
      · rename_i hai hbi
        rw [if_neg hai, if_neg hbi] at hk
        exact unique a b ha hb hk
  · rw [Store.present_role]
    change _ ↔ some i = some a
    split
    · rename_i e
      simp [e]
    · rename_i e
      rw [shown a, dark]
      simp [Ne.symm e]
  · rw [Store.present_role]
    split
    · exact nofun
    · exact sampled sp hsp
  · rw [Store.present_role] at ha
    rw [Store.present_slots]
    split at ha
    · cases ha
    · rename_i e
      rw [if_neg e]
      exact cleared a ha
  · rw [Store.present_slots]
    split
    · exact canonical i
    · exact canonical a

theorem Store.mem_olderThan (st : Store) (i j : Fin 8) :
    j ∈ st.olderThan i ↔ st.role j = .filled ∧ st.age i < st.age j := by
  simp [Store.olderThan, Store.mem_filled]

theorem Store.found_slotsOk {st : Store} (i : Fin 8) (ok : st.slotsOk) : (st.found i).slotsOk := by
  rw [Store.found_eq]
  refine Store.freeSlots_slotsOk (Store.present_slotsOk (Store.freeShown_slotsOk ok) st.freeShown_shown) fun j hj e => ?_
  obtain ⟨-, older⟩ := (st.mem_olderThan i j).mp hj
  cases Option.some.inj e
  exact Nat.lt_irrefl _ older

theorem Store.found_active (st : Store) (i : Fin 8) : (st.found i).active = st.active := by
  rw [Store.found_eq, Store.freeSlots_active]
  exact st.freeShown_active

/-! ## A reference line written (R69, R70) -/

theorem Store.supersede_active (st : Store) (k : Key) : (st.supersede k).active = st.active := by
  unfold Store.supersede
  split <;> rfl

theorem Store.supersede_slotsOk {st : Store} (k : Key) (ok : st.slotsOk) : (st.supersede k).slotsOk := by
  unfold Store.supersede
  split
  · rename_i i h
    refine Store.freeSlot_slotsOk ok (Store.shown_ne_of_role ok ?_)
    rw [(Store.lookUp_some h).1]
    exact nofun
  · exact ok

/-- No FILLED slot has the key once its line is superseded. -/
theorem Store.supersede_key {st : Store} (ok : st.slotsOk) (k : Key) (j : Fin 8) (hj : (st.supersede k).role j = .filled) :
    ((st.supersede k).slots[j]).key ≠ k := by
  unfold Store.supersede at hj ⊢
  split at hj
  · rename_i i h
    obtain ⟨role, key⟩ := Store.lookUp_some h
    rw [Store.freeSlot_role] at hj
    rw [Store.freeSlot_slots]
    split at hj
    · cases hj
    · rename_i e
      rw [if_neg e]
      exact fun hk => e (ok.1 j i hj role (hk.trans key.symm))
  · rename_i h
    exact Store.lookUp_none.mp h j hj

/-- R70 chooses a slot that is FREE, or else a FILLED one. -/
theorem Store.choose_some {st : Store} {i : Fin 8} {dropped : Bool} (h : st.choose = (some i, dropped)) :
    (st.role i = .free ∧ dropped = false) ∨ (st.role i = .filled ∧ dropped = true) := by
  unfold Store.choose at h
  split at h
  · rename_i j hj
    obtain ⟨rfl, rfl⟩ := Prod.mk.inj h |>.imp Option.some.inj id
    exact Or.inl ⟨by simpa using List.find?_some hj, rfl⟩
  · obtain ⟨oldest, rfl⟩ := Prod.mk.inj h
    exact Or.inr ⟨(st.mem_filled i).mp (st.oldest_some _ i oldest).1, rfl⟩

theorem Store.choose_not_shown {st : Store} {i : Fin 8} {dropped : Bool} (h : st.choose = (some i, dropped)) :
    st.role i ≠ .shown := by
  obtain ⟨role, -⟩ | ⟨role, -⟩ := Store.choose_some h <;> rw [role] <;> exact nofun

theorem Store.fill_slots (st : Store) (i j : Fin 8) (k : Key) (l : RefLine) :
    (st.fill i k l).slots[j] = if j = i then ⟨.filled, k, st.seq, l.synthetic, l.step.isSome, []⟩ else st.slots[j] := by
  change (st.setSlot i _).slots[j] = _
  split
  · rename_i e
    subst e
    exact st.setSlot_self j _
  · rename_i e
    exact st.setSlot_ne (Ne.symm e) _

theorem Store.fill_role (st : Store) (i j : Fin 8) (k : Key) (l : RefLine) :
    (st.fill i k l).role j = if j = i then .filled else st.role j := by
  rw [Store.role, Store.fill_slots]
  split <;> rfl

theorem Store.fill_slotsOk {st : Store} {i : Fin 8} {k : Key} (l : RefLine) (ok : st.slotsOk)
    (fresh : ∀ j, st.role j = .filled → (st.slots[j]).key ≠ k) (hidden : st.role i ≠ .shown) : (st.fill i k l).slotsOk := by
  obtain ⟨unique, shown, sampled, cleared, canonical⟩ := ok
  refine ⟨fun a b ha hb hk => ?_, fun a => ?_, fun sp hsp => ?_, fun a ha => ?_, fun a => ?_⟩
  · rw [Store.fill_role] at ha hb
    rw [Store.fill_slots, Store.fill_slots] at hk
    by_cases hai : a = i <;> by_cases hbi : b = i
    · exact hai.trans hbi.symm
    · rw [if_pos hai, if_neg hbi] at hk
      rw [if_neg hbi] at hb
      exact absurd hk.symm (fresh b hb)
    · rw [if_neg hai, if_pos hbi] at hk
      rw [if_neg hai] at ha
      exact absurd hk (fresh a ha)
    · rw [if_neg hai] at ha hk
      rw [if_neg hbi] at hb hk
      exact unique a b ha hb hk
  · rw [Store.fill_role]
    change _ ↔ st.shown = some a
    rw [← shown a]
    split
    · rename_i e
      rw [e]
      exact ⟨nofun, fun h => absurd h hidden⟩
    · rfl
  · change (if l.synthetic then none else some ⟨i, l.stamp⟩) = some sp at hsp
    split at hsp
    · cases hsp
    · cases hsp
      rw [Store.fill_role, if_pos rfl]
      exact nofun
  · rw [Store.fill_role] at ha
    rw [Store.fill_slots]
    split at ha
    · cases ha
    · rename_i e
      rw [if_neg e]
      exact cleared a ha
  · rw [Store.fill_slots]
    split
    · rfl
    · exact canonical a

/-- A line start reaching an ACTIVE store either fills a slot, with DROP and SLIP for a line lost, or ends the sampling. -/
theorem State.storeWrite_cases (s : State) (l : RefLine) :
    s.storeWrite l = s ∨
    (s.store.active = true ∧
      (s.storeWrite l = s.setStore { s.store with sampling := none } ∨
       ∃ k, l.key = some k ∧
        ((∃ i dropped, (s.store.supersede k).choose = (some i, dropped) ∧
          (s.storeWrite l = s.setStore ((s.store.supersede k).fill i k l) ∨
           ∃ post, s.storeWrite l = ((s.setStore ((s.store.supersede k).fill i k l)).post post).latch condSlip)) ∨
         s.storeWrite l = s.setStore (s.store.supersede k)))) := by
  unfold State.storeWrite
  split
  · rename_i active
    refine Or.inr ⟨active, ?_⟩
    cases hk : l.key with
    | none => exact Or.inl rfl
    | some k =>
      refine Or.inr ⟨k, rfl, ?_⟩
      dsimp only
      split
      · rename_i i dropped h
        refine Or.inl ⟨i, dropped, h, ?_⟩
        cases dropped
        · exact Or.inl rfl
        · exact Or.inr ⟨_, rfl⟩
      · exact Or.inr rfl
  · exact Or.inl rfl

theorem Store.endSampling_slotsOk {st : Store} (ok : st.slotsOk) : { st with sampling := none }.slotsOk := by
  obtain ⟨unique, shown, -, cleared, canonical⟩ := ok
  exact ⟨unique, shown, nofun, cleared, canonical⟩

theorem Store.fill_contentsKept {st : Store} {k : Key} {i : Fin 8} {dropped : Bool} (l : RefLine) (active : st.active = true)
    (chosen : (st.supersede k).choose = (some i, dropped)) : st.contentsKept ((st.supersede k).fill i k l) :=
  Store.contentsKept_of_active active (st.supersede_active k) fun ok =>
    Store.fill_slotsOk l (Store.supersede_slotsOk k ok) (Store.supersede_key ok k) (Store.choose_not_shown chosen)

theorem Keeps.storeWrite (s : State) (l : RefLine) : Keeps s (s.storeWrite l) := by
  obtain e | ⟨active, e | ⟨k, -, ⟨i, dropped, chosen, e | ⟨p, e⟩⟩ | e⟩⟩ := s.storeWrite_cases l <;> rw [e]
  · exact .refl s
  · exact .setStore (Store.contentsKept_of_active active rfl Store.endSampling_slotsOk)
  · exact .setStore (Store.fill_contentsKept l active chosen)
  · exact (Keeps.setStore (Store.fill_contentsKept l active chosen)).trans ((Keeps.post _ p).trans (.latch _ _))
  · exact .setStore (Store.contentsKept_of_active active (s.store.supersede_active k) (Store.supersede_slotsOk k))

/-! ## Sampling (R71) -/

/-- A sample placed in the sampling slot changes that slot's samples alone. -/
theorem Store.setSamples_slots (st : Store) (i j : Fin 8) (m : Samples) :
    (st.setSlot i { st.slots[i] with samples := m }).slots[j] =
      { st.slots[j] with samples := if j = i then m else (st.slots[j]).samples } := by
  split
  · rename_i e
    subst e
    exact st.setSlot_self j _
  · rename_i e
    exact st.setSlot_ne (Ne.symm e) _

theorem Store.setSamples_role (st : Store) (i j : Fin 8) (m : Samples) :
    (st.setSlot i { st.slots[i] with samples := m }).role j = st.role j := by
  rw [Store.role, Store.setSamples_slots]
  rfl

/-- A sampling slot's samples replaced by others in canonical form, and the sampling perhaps ended. -/
theorem Store.setSamples_slotsOk {st : Store} {sp : Sampling} {m : Samples} (ok : st.slotsOk) (sampled : st.sampling = some sp)
    (wf : Samples.wf m = true) (next : Option Sampling) (hnext : next = none ∨ next = some sp) :
    { st.setSlot sp.slot { st.slots[sp.slot] with samples := m } with sampling := next }.slotsOk := by
  obtain ⟨unique, shown, sampling, cleared, canonical⟩ := ok
  have busy := sampling sp sampled
  refine ⟨fun a b ha hb hk => ?_, fun a => ?_, fun sp' hsp => ?_, fun a ha => ?_, fun a => ?_⟩
  · change (st.setSlot _ _).role a = _ at ha
    change (st.setSlot _ _).role b = _ at hb
    change ((st.setSlot _ _).slots[a]).key = ((st.setSlot _ _).slots[b]).key at hk
    rw [Store.setSamples_role] at ha hb
    rw [Store.setSamples_slots, Store.setSamples_slots] at hk
    exact unique a b ha hb hk
  · change (st.setSlot _ _).role a = _ ↔ _
    rw [Store.setSamples_role]
    exact shown a
  · change (st.setSlot _ _).role sp'.slot ≠ _
    rw [Store.setSamples_role]
    obtain e | e := hnext
    · rw [e] at hsp
      cases hsp
    · rw [e] at hsp
      cases hsp
      exact busy
  · change (st.setSlot _ _).role a = _ at ha
    change (st.setSlot _ _).slots[a] = _
    rw [Store.setSamples_role] at ha
    have other : a ≠ sp.slot := fun e => busy (e ▸ ha)
    rw [Store.setSamples_slots, if_neg other]
    exact cleared a ha
  · change Samples.wf ((st.setSlot _ _).slots[a]).samples = true
    rw [Store.setSamples_slots]
    dsimp only
    split
    · exact wf
    · exact canonical a

theorem Store.sampleTick_contentsKept (st : Store) (reading : Stamp) (ref : Sample) :
    st.contentsKept (st.sampleTick reading ref) := by
  refine ⟨by rw [Store.sampleTick_eq], fun empty idle => ?_, fun ok => ?_⟩
  · rw [Store.sampleTick_eq] at idle
    rw [Store.sampleTick_none st reading ref (empty idle).2.2]
    exact empty idle
  · unfold Store.sampleTick
    split
    · exact ok
    · rename_i sp sampled
      split
      · exact ok
      · split
        · rename_i k _ room
          refine Store.setSamples_slotsOk ok sampled (Samples.wf_write ref room (ok.2.2.2.2 sp.slot)) _ ?_
          split
          · exact Or.inl rfl
          · exact Or.inr rfl
        · exact Store.endSampling_slotsOk ok

/-! ## The loop's values under the engine's operations (R28 to R33) -/

/-- The loop's ranges rest on the loop's values alone. -/
theorem Engine.loopKept_of_eq {e e' : Engine}
    (h : (e'.k0, e'.kspan, e'.k, e'.i, e'.s, e'.e, e'.profile, e'.history) =
      (e.k0, e.kspan, e.k, e.i, e.s, e.e, e.profile, e.history)) : e.loopKept e' := by
  simp only [Prod.mk.injEq] at h
  obtain ⟨k0, kspan, k, i, s, er, profile, history⟩ := h
  refine ⟨k0, kspan, ?_⟩
  simp only [Engine.inRange, k0, kspan, k, i, s, er, profile, history, imp_self]

theorem Engine.takeStep_loopKept (e : Engine) (st : Option Int) : e.loopKept (e.takeStep st) := by
  unfold Engine.takeStep
  split
  · rename_i sigma hp
    refine ⟨rfl, rfl, fun range => ?_⟩
    obtain ⟨k, i, -, -, er, history⟩ := range
    refine ⟨k, i, clampInt_natAbs 8191 _, fun broadcast => ?_, er, history⟩
    rw [hp] at broadcast
    cases broadcast
  · exact e.loopKept_refl

/-- K clamped lies within Kspan of K0. -/
theorem Engine.clampK_bounds (e : Engine) (v : Int) : e.k0 ≤ e.clampK v + e.kspan ∧ e.clampK v ≤ e.k0 + e.kspan := by
  have bounds := clampInt_bounds (show (e.k0 : Int) - e.kspan ≤ e.k0 + e.kspan by omega) v
  unfold Engine.clampK
  omega

theorem Engine.update_loopKept (e : Engine) {err : Int} (h : err.natAbs ≤ 4095) : e.loopKept (e.update err) := by
  refine ⟨rfl, rfl, fun range => ?_⟩
  obtain ⟨-, -, s, broadcast, -, history⟩ := range
  exact ⟨e.clampK_bounds _, clampInt_natAbs e.kspan _, s, broadcast, h, history⟩

theorem Engine.countRun_loopKept (e : Engine) : e.loopKept e.countRun := by
  rw [Engine.countRun_eq]
  exact Engine.loopKept_of_eq rfl

theorem Engine.record_loopKept (e : Engine) (stamp : Stamp) : e.loopKept (e.record stamp) := by
  refine ⟨rfl, rfl, fun range => ?_⟩
  obtain ⟨k, i, s, broadcast, er, -⟩ := range
  refine ⟨k, i, s, broadcast, er, ?_⟩
  simp only [Engine.record, List.length_take]
  exact Nat.min_le_left _ _

theorem Engine.freeRun_loopKept (e : Engine) : e.loopKept e.freeRun := by
  refine ⟨rfl, rfl, fun range => ?_⟩
  obtain ⟨-, -, -, -, er, history⟩ := range
  refine ⟨⟨Nat.le_add_right _ _, Nat.le_add_right _ _⟩, Nat.zero_le _, Nat.zero_le _, fun _ => rfl, er, history⟩

/-- The decay moves S toward zero and no further (R31). -/
theorem decayOffset_natAbs_le (v : Int) : (decayOffset v).natAbs ≤ v.natAbs := by
  unfold decayOffset
  split
  · omega
  · dsimp only
    split <;> omega

theorem Engine.decay_loopKept (e : Engine) : e.loopKept { e with s := decayOffset e.s } := by
  refine ⟨rfl, rfl, fun range => ?_⟩
  obtain ⟨k, i, s, broadcast, er, history⟩ := range
  refine ⟨k, i, (decayOffset_natAbs_le _).trans s, fun h => ?_, er, history⟩
  dsimp only
  rw [broadcast h]
  rfl

/-! ## The engine's events -/

theorem Keeps.enterLocked {s : State} (tracks : s.engine.lock.tracks) : Keeps s s.enterLocked.1 :=
  .changeLock s _ (fun _ => Or.inl tracks) (Engine.loopKept_of_eq rfl)

theorem Keeps.dropLock {s : State} (tracks : s.engine.lock.tracks) : Keeps s s.dropLock.1 :=
  .changeLock s _ (fun _ => Or.inl tracks) (Engine.loopKept_of_eq rfl)

/-- The test of the entry to LOCKED enters it or leaves everything. -/
theorem State.testLocked_cases (s : State) :
    s.testLocked = (s, []) ∨
    (s.testLocked = s.enterLocked ∧ s.engine.lock = .acquire ∧ s.engine.nLock ≤ s.engine.lockRun ∧ s.engine.vmatch = true) := by
  unfold State.testLocked
  split
  · rename_i h
    exact Or.inr ⟨rfl, h⟩
  · exact Or.inl rfl

theorem Keeps.testLocked (s : State) : Keeps s s.testLocked.1 := by
  obtain h | ⟨h, acquire, -⟩ := s.testLocked_cases <;> rw [h]
  · exact .refl s
  · exact .enterLocked (Or.inl acquire)

theorem Keeps.testUpdate (s : State) : Keeps s s.testUpdate.1 := by
  obtain h | ⟨h, acquire, -⟩ | ⟨h, locked, -⟩ := s.testUpdate_cases <;> rw [h]
  · exact .refl s
  · exact .enterLocked (Or.inl acquire)
  · exact .dropLock (Or.inr locked)

theorem Keeps.measure (s : State) (l : RefLine) : Keeps s (s.measure l) := by
  by_cases active : l.synthetic = false ∧ (s.engine.lock = .acquire ∨ s.engine.lock = .locked)
  · have step := s.engine.takeStep_eq l.step
    cases hg : (s.engine.takeStep l.step).measureFrom ((s.engine.takeStep l.step).target l.stamp) with
    | none =>
      rw [s.measure_empty l active hg]
      exact .setEngine (by rw [step]) (by rw [step]) (s.engine.takeStep_loopKept l.step)
    | some g =>
      have measured := s.measure_some l active hg
      dsimp only at measured
      rw [measured]
      generalize foldErr : foldError (lnom s.timing.standard) _ = err
      have bounded : err.natAbs ≤ 4095 := foldErr ▸ foldError_natAbs_le _ _
      have updated : Keeps s (s.setEngine ((s.engine.takeStep l.step).update err).countRun) := by
        refine .setEngine ?_ ?_ ?_
        · rw [Engine.countRun_eq, Engine.update_eq, step]
        · rw [Engine.countRun_eq, Engine.update_eq, step]
        · exact Engine.loopKept_trans (Engine.loopKept_trans (s.engine.takeStep_loopKept l.step)
            (Engine.update_loopKept _ bounded)) (Engine.countRun_loopKept _)
      exact updated.trans ((Keeps.postAll _ _).trans ((Keeps.testUpdate _).trans (.postAll _ _)))
  · rw [s.measure_none l active]
    exact .refl s

theorem Keeps.emitLine (s : State) (l : RefLine) : Keeps s (s.emitLine l) := (Keeps.storeWrite s l).trans (.measure _ l)

theorem Keeps.takeVerdict {s : State} (track : s.classifier.tracking = .track) (v : Verdict) : Keeps s (s.takeVerdict v).1 := by
  unfold State.takeVerdict State.enterAcquire
  split
  · split
    · dsimp only
      split
      · refine .changeLock s _ (fun _ => Or.inr track) ?_
        split
        · refine ⟨rfl, rfl, fun range => ?_⟩
          obtain ⟨k, -, offset, broadcast, er, history⟩ := range
          exact ⟨k, Nat.zero_le _, offset, broadcast, er, history⟩
        · exact Engine.loopKept_of_eq rfl
      · exact .setEngine rfl rfl (Engine.loopKept_of_eq rfl)
    · exact .setEngine rfl rfl (Engine.loopKept_of_eq rfl)
  · exact .refl s

theorem Keeps.takeFieldStart (s : State) (f : RefField) : Keeps s (s.takeFieldStart f) := by
  have decayed : Keeps s (s.setEngine { s.engine with s := decayOffset s.engine.s }) :=
    .setEngine rfl rfl s.engine.decay_loopKept
  unfold State.takeFieldStart
  dsimp only
  split
  · exact decayed.trans (.setTiming_jam_load (s.setEngine { s.engine with s := decayOffset s.engine.s }) _ s.timing.load)
  · exact decayed

/-- A loss leaves a lock state that does not track, with the properties kept (R54). -/
theorem Keeps.takeLoss (s : State) : Keeps s s.takeLoss.1 ∧ ¬s.takeLoss.1.engine.lock.tracks := by
  have holds : ∀ {e : Engine} (v : Int), e.loopKept { e with k := e.clampK v } := fun {e} v => by
    refine ⟨rfl, rfl, fun range => ?_⟩
    obtain ⟨-, i, offset, broadcast, er, history⟩ := range
    exact ⟨e.clampK_bounds v, i, offset, broadcast, er, history⟩
  have untracked : ∀ {new : LockState}, new.tracks → new ≠ .holdover ∧ new ≠ .free ∧ new ≠ .internal := by
    rintro new (rfl | rfl) <;> exact ⟨nofun, nofun, nofun⟩
  have lossOf : (s.engine.lock = .acquire ∨ s.engine.lock = .locked) →
      Keeps s s.takeLoss.1 ∧ ¬s.takeLoss.1.engine.lock.tracks := by
    intro h
    have e : s.takeLoss = (let e := { s.engine with qual := 0, lockRun := 0, dropRun := 0, missRun := 0 }
      if 1 ≤ e.hmax then s.changeLock .holdover true { e with k := e.clampK (e.k0 - e.i), holdover := e.hmax }
      else s.changeLock .free true e.freeRun) := by
      unfold State.takeLoss
      obtain h | h := h <;> rw [h]
    rw [e]
    dsimp only
    split
    · refine ⟨.changeLock s _ (fun h => absurd rfl (untracked h).1) ?_, fun h => ?_⟩
      · exact Engine.loopKept_trans (holds (s.engine.k0 - s.engine.i)) (Engine.loopKept_of_eq rfl)
      · rw [State.changeLock_engine] at h
        exact (untracked h).1 rfl
    · refine ⟨.changeLock s _ (fun h => absurd rfl (untracked h).2.1) ?_, fun h => ?_⟩
      · exact Engine.loopKept_trans (Engine.loopKept_of_eq rfl) (Engine.freeRun_loopKept _)
      · rw [State.changeLock_engine] at h
        exact (untracked h).2.1 rfl
  cases h : s.engine.lock with
  | acquire => exact lossOf (Or.inl h)
  | locked => exact lossOf (Or.inr h)
  | free =>
    have e : s.takeLoss = (s.setEngine { s.engine with qual := 0 }, []) := by unfold State.takeLoss; rw [h]
    rw [e]
    exact ⟨.setEngine rfl rfl (Engine.loopKept_of_eq rfl), fun t => (untracked t).2.1 h⟩
  | holdover =>
    have e : s.takeLoss = (s.setEngine { s.engine with qual := 0 }, []) := by unfold State.takeLoss; rw [h]
    rw [e]
    exact ⟨.setEngine rfl rfl (Engine.loopKept_of_eq rfl), fun t => (untracked t).1 h⟩
  | internal =>
    have e : s.takeLoss = (s, []) := by unfold State.takeLoss; rw [h]
    rw [e]
    exact ⟨.refl s, fun t => (untracked t).2.2 h⟩

theorem Keeps.takeGeneratedField (s : State) : Keeps s s.takeGeneratedField.1 := by
  unfold State.takeGeneratedField
  split
  · dsimp only
    split
    · refine .changeLock s _ (by rintro (h | h) <;> cases h) ?_
      exact Engine.loopKept_trans (Engine.loopKept_of_eq rfl) (Engine.freeRun_loopKept _)
    · exact .setEngine rfl rfl (Engine.loopKept_of_eq rfl)
  · exact .refl s

theorem Keeps.takeLineOne (s : State) (r : LineOne) : Keeps s (s.takeLineOne r).1 := by
  unfold State.takeLineOne
  split
  · rename_i locked
    cases r with
    | hit => exact .setEngine rfl rfl (Engine.loopKept_of_eq rfl)
    | miss =>
      dsimp only
      split
      · exact .dropLock (Or.inr locked)
      · exact .setEngine rfl rfl (Engine.loopKept_of_eq rfl)
  · exact .refl s

theorem Keeps.enterInternal (s : State) : Keeps s s.enterInternal.1 :=
  .changeLock s _ (by rintro (h | h) <;> cases h)
    (Engine.loopKept_trans s.engine.freeRun_loopKept (Engine.loopKept_of_eq rfl))

theorem Keeps.leaveInternal (s : State) : Keeps s s.leaveInternal.1 :=
  .changeLock s _ (by rintro (h | h) <;> cases h)
    (Engine.loopKept_trans s.engine.freeRun_loopKept (Engine.loopKept_of_eq rfl))

/-! ## A generated line read (R72 to R74, R78) -/

/-- The look-up: found, with a DROP for older lines; starved; or a repeat that leaves the store. -/
theorem State.storeLookUp_cases (s : State) (k : Key) :
    (∃ i, s.store.lookUp k = some i ∧
      (s.storeLookUp k = (s.setStore (s.store.found i), true) ∨
       ∃ p, s.storeLookUp k = (((s.setStore (s.store.found i)).post p).latch condSlip, true))) ∨
    s.storeLookUp k = (s.setStore s.store.freeShown, false) ∨
    ∃ p, s.storeLookUp k = ((s.post p).latch condSlip, false) := by
  unfold State.storeLookUp
  split
  · rename_i i found
    refine Or.inl ⟨i, found, ?_⟩
    dsimp only
    split
    · exact Or.inr ⟨_, rfl⟩
    · exact Or.inl rfl
  · split
    · exact Or.inr (Or.inl rfl)
    · exact Or.inr (Or.inr ⟨_, rfl⟩)

theorem Keeps.storeLookUp {s : State} (active : s.store.active = true) (k : Key) : Keeps s (s.storeLookUp k).1 := by
  have found : ∀ i, Keeps s (s.setStore (s.store.found i)) := fun i =>
    .setStore (Store.contentsKept_of_active active (s.store.found_active i) (Store.found_slotsOk i))
  obtain ⟨i, -, e | ⟨p, e⟩⟩ | e | ⟨p, e⟩ := s.storeLookUp_cases k <;> rw [e]
  · exact found i
  · exact (found i).trans ((Keeps.post _ p).trans (.latch _ _))
  · exact .setStore (Store.contentsKept_of_active active s.store.freeShown_active Store.freeShown_slotsOk)
  · exact (Keeps.post _ p).trans (.latch _ _)

theorem Keeps.setLineOne (s : State) (r : LineOne) : Keeps s (s.setStore { s.store with lineOne := some r }) :=
  .setStore (Store.contentsKept_of_eq rfl rfl rfl rfl)

theorem Keeps.storeRead (s : State) (k : Key) : Keeps s (s.storeRead k) := by
  have trimmed : Keeps s (s.setStore { s.store with hLine := s.store.h }) := .setStore (Store.contentsKept_of_eq rfl rfl rfl rfl)
  unfold State.storeRead
  dsimp only
  split
  · rename_i active
    have read := trimmed.trans (Keeps.storeLookUp active k)
    split
    · exact read.trans ((Keeps.setLineOne _ _).trans ((Keeps.takeLineOne _ _).trans (.postAll _ _)))
    · exact read
  · exact trimmed

end Sys2Proof.Machine

/-! What the sync classifier's operations and the commands of the reference input keep (spec/01). -/

namespace Sys2Proof.Machine

/-! ## The classifier's ranges under its own operations -/

theorem one_lt_flywheelLimit (c : Classifier) (std : Standard) (p : Parity) : 1 < c.flywheelLimit std p := by
  unfold Classifier.flywheelLimit
  split
  · cases std <;> cases p <;> decide
  · decide

theorem clampLavg_range (std : Standard) (v : Int) :
    ((clampLavg std v : Int) - lnom std).natAbs ≤ 3 * lnom std / 100 := by
  have bounds := clampInt_bounds (show (lnom std : Int) - (3 * lnom std / 100 : Nat) ≤ lnom std + (3 * lnom std / 100 : Nat) by
    omega) v
  have positive : 3 * lnom std / 100 ≤ lnom std := by omega
  unfold clampLavg
  omega

/-- The ranges rest on the counts, the average, the windows, the numbering and the flywheel alone. -/
theorem Classifier.inRange_of_eq {std : Standard} {c c' : Classifier}
    (h : (c'.synthCount, c'.badCount, c'.wrongRun, c'.lavg, c'.wn, c'.ww, c'.nloss, c'.b, c'.numbering, c'.flywheel) =
      (c.synthCount, c.badCount, c.wrongRun, c.lavg, c.wn, c.ww, c.nloss, c.b, c.numbering, c.flywheel))
    (range : c.inRange std) : c'.inRange std := by
  simp only [Prod.mk.injEq] at h
  obtain ⟨synth, bad, wrong, lavg, wn, ww, nloss, b, numbering, flywheel⟩ := h
  unfold Classifier.inRange Classifier.flywheelLimit at range ⊢
  simpa only [synth, bad, wrong, lavg, wn, ww, nloss, b, numbering, flywheel] using range

/-- The tracking, REF_ABSENT and the numbering as they were. -/
theorem Classifier.searchOk_of_eq {c c' : Classifier}
    (h : (c'.tracking, c'.refAbsent, c'.numbering) = (c.tracking, c.refAbsent, c.numbering)) (ok : c.searchOk) : c'.searchOk := by
  simp only [Prod.mk.injEq] at h
  obtain ⟨tracking, absent, numbering⟩ := h
  simpa only [Classifier.searchOk, tracking, absent, numbering] using ok

/-- In TRACK any numbering may stand. -/
theorem Classifier.searchOk_of_track {c c' : Classifier} (track : c.tracking = .track)
    (h : (c'.tracking, c'.refAbsent) = (c.tracking, c.refAbsent)) (ok : c.searchOk) : c'.searchOk := by
  simp only [Prod.mk.injEq] at h
  obtain ⟨tracking, absent⟩ := h
  refine ⟨by rw [tracking, absent]; exact ok.1, fun search => ?_⟩
  rw [tracking, track] at search
  cases search

/-- A change of the classifier that leaves tracking and numbering as they are. -/
theorem Keeps.setClassifier_same {s : State} {c : Classifier}
    (same : (c.tracking, c.refAbsent, c.numbering) = (s.classifier.tracking, s.classifier.refAbsent, s.classifier.numbering))
    (range : s.classifier.inRange s.timing.standard → c.inRange s.timing.standard) : Keeps s (s.setClassifier c) := by
  refine .setClassifier (Classifier.searchOk_of_eq same) (fun search => Or.inl ?_) range
  simp only [Prod.mk.injEq] at same
  exact same.1 ▸ search

/-- A change of the classifier in TRACK. -/
theorem Keeps.setClassifier_track {s : State} {c : Classifier} (track : s.classifier.tracking = .track)
    (same : (c.tracking, c.refAbsent) = (s.classifier.tracking, s.classifier.refAbsent))
    (range : s.classifier.inRange s.timing.standard → c.inRange s.timing.standard) : Keeps s (s.setClassifier c) := by
  refine .setClassifier (Classifier.searchOk_of_track track same) (fun search => Or.inl ?_) range
  simp only [Prod.mk.injEq] at same
  exact same.1 ▸ search

theorem Classifier.countBad_inRange {std : Standard} {c : Classifier} (range : c.inRange std) : c.countBad.inRange std := by
  obtain ⟨synth, -, wrong, lavg, windows, numbering⟩ := range
  exact ⟨synth, countTo_le, wrong, lavg, windows, numbering⟩

theorem Keeps.countBad (s : State) : Keeps s (s.setClassifier s.classifier.countBad) :=
  .setClassifier_same rfl Classifier.countBad_inRange

theorem Keeps.anchorAt (s : State) (stamp : Stamp) (real step : Bool) :
    Keeps s (s.setClassifier (s.classifier.anchorAt stamp real step)) :=
  .setClassifier_same rfl (Classifier.inRange_of_eq rfl)

/-! ## What the classifier's operations leave outside the lock half -/

/-- All that a change of the lock half leaves: what `referenceKeeps` names, a pulse in progress and the queue of commands. -/
def lockHalfOnly (s t : State) : Prop := referenceKeeps s t ∧ t.pulse = s.pulse ∧ t.pending = s.pending

theorem lockHalfOnly_refl (s : State) : lockHalfOnly s s := ⟨⟨rfl, rfl, rfl, rfl, rfl, rfl, rfl, rfl, rfl⟩, rfl, rfl⟩

theorem lockHalfOnly_trans {s t u : State} (a : lockHalfOnly s t) (b : lockHalfOnly t u) : lockHalfOnly s u := by
  obtain ⟨⟨a1, a2, a3, a4, a5, a6, a7, a8, a9⟩, ap, aq⟩ := a
  obtain ⟨⟨b1, b2, b3, b4, b5, b6, b7, b8, b9⟩, bp, bq⟩ := b
  refine ⟨⟨b1.trans a1, ?_, ?_, b4.trans a4, b5.trans a5, b6.trans a6, b7.trans a7, b8.trans a8, b9.trans a9⟩,
    bp.trans ap, bq.trans aq⟩
  · rw [a2] at b2
    exact b2
  · rw [a3] at b3
    exact b3

/-- A change of the classifier, the engine, the reports and the draw counter. -/
theorem lockHalfOnly_of_eq {s t : State}
    (h : (t.stamp, t.timing, t.mixer, t.banks, t.fades, t.cues, t.link, t.store, t.pulse, t.pending) =
      (s.stamp, s.timing, s.mixer, s.banks, s.fades, s.cues, s.link, s.store, s.pulse, s.pending)) : lockHalfOnly s t := by
  simp only [Prod.mk.injEq] at h
  obtain ⟨stamp, timing, mixer, banks, fades, cues, link, store, pulse, pending⟩ := h
  exact ⟨⟨stamp, by rw [timing], by rw [mixer], banks, fades, cues, link, by rw [store], by rw [store]⟩, pulse, pending⟩

theorem lockHalfOnly_post (s : State) (p : Post) : lockHalfOnly s (s.post p) := lockHalfOnly_of_eq rfl
theorem lockHalfOnly_latch (s : State) (n : Nat) : lockHalfOnly s (s.latch n) := lockHalfOnly_of_eq rfl
theorem lockHalfOnly_settle (s : State) : lockHalfOnly s s.settle := lockHalfOnly_of_eq rfl
theorem lockHalfOnly_setClassifier (s : State) (c : Classifier) : lockHalfOnly s (s.setClassifier c) := lockHalfOnly_of_eq rfl
theorem lockHalfOnly_setReports (s : State) (r : ReportUnit) : lockHalfOnly s (s.setReports r) := lockHalfOnly_of_eq rfl
theorem lockHalfOnly_setEngine (s : State) (e : Engine) : lockHalfOnly s (s.setEngine e) := lockHalfOnly_of_eq rfl
theorem lockHalfOnly_postAll (s : State) (ps : List Post) : lockHalfOnly s (s.postAll ps) := lockHalfOnly_of_eq (by simp)
theorem lockHalfOnly_postWork (s : State) (ahead : Option Work) (ws : List (Work × List Post)) :
    lockHalfOnly s (s.postWork ahead ws) := lockHalfOnly_of_eq (by simp)

theorem lockHalfOnly_setStore {s : State} {st : Store} (d : st.d = s.store.d) (h : st.h = s.store.h) :
    lockHalfOnly s (s.setStore st) := ⟨⟨rfl, rfl, rfl, rfl, rfl, rfl, rfl, d, h⟩, rfl, rfl⟩

theorem lockHalfOnly_changeLock (s : State) (new : LockState) (setsK : Bool) (e : Engine) :
    lockHalfOnly s (s.changeLock new setsK e).1 := by
  obtain ⟨jam, timing⟩ := s.changeLock_timing_jam new setsK e
  obtain ⟨d, h, -⟩ := s.store.handed_settings new
  exact ⟨⟨by simp, by rw [timing], by simp, by simp, by simp, by simp, by simp, by simpa using d, by simpa using h⟩, by simp,
    by simp⟩

theorem lockHalfOnly_testLocked (s : State) : lockHalfOnly s s.testLocked.1 := by
  obtain h | ⟨h, -⟩ := s.testLocked_cases <;> rw [h]
  · exact lockHalfOnly_refl s
  · exact lockHalfOnly_changeLock ..

theorem lockHalfOnly_testUpdate (s : State) : lockHalfOnly s s.testUpdate.1 := by
  obtain h | ⟨h, -⟩ | ⟨h, -⟩ := s.testUpdate_cases <;> rw [h]
  · exact lockHalfOnly_refl s
  · exact lockHalfOnly_changeLock ..
  · exact lockHalfOnly_changeLock ..

theorem Store.supersede_settings (st : Store) (k : Key) :
    (st.supersede k).d = st.d ∧ (st.supersede k).h = st.h ∧ (st.supersede k).seq = st.seq ∧ (st.supersede k).hLine = st.hLine := by
  unfold Store.supersede
  split <;> exact ⟨rfl, rfl, rfl, rfl⟩

theorem lockHalfOnly_storeWrite (s : State) (l : RefLine) : lockHalfOnly s (s.storeWrite l) := by
  have filled : ∀ i k, lockHalfOnly s (s.setStore ((s.store.supersede k).fill i k l)) := fun i k =>
    lockHalfOnly_setStore (s.store.supersede_settings k).1 (s.store.supersede_settings k).2.1
  obtain e | ⟨-, e | ⟨k, -, ⟨i, dropped, -, e | ⟨p, e⟩⟩ | e⟩⟩ := s.storeWrite_cases l <;> rw [e]
  · exact lockHalfOnly_refl s
  · exact lockHalfOnly_setStore rfl rfl
  · exact filled i k
  · exact lockHalfOnly_trans (filled i k) (lockHalfOnly_of_eq rfl)
  · exact lockHalfOnly_setStore (s.store.supersede_settings k).1 (s.store.supersede_settings k).2.1

theorem State.storeWrite_classifier (s : State) (l : RefLine) : (s.storeWrite l).classifier = s.classifier := by
  obtain e | ⟨-, e | ⟨k, -, ⟨i, dropped, -, e | ⟨p, e⟩⟩ | e⟩⟩ := s.storeWrite_cases l <;> rw [e] <;> rfl

theorem State.storeWrite_engine (s : State) (l : RefLine) : (s.storeWrite l).engine = s.engine := by
  obtain e | ⟨-, e | ⟨k, -, ⟨i, dropped, -, e | ⟨p, e⟩⟩ | e⟩⟩ := s.storeWrite_cases l <;> rw [e] <;> rfl

theorem State.testUpdate_classifier (s : State) : s.testUpdate.1.classifier = s.classifier := by
  obtain h | ⟨h, -⟩ | ⟨h, -⟩ := s.testUpdate_cases <;> rw [h]
  · exact State.changeLock_classifier ..
  · exact State.changeLock_classifier ..

theorem State.measure_lockHalf (s : State) (l : RefLine) :
    lockHalfOnly s (s.measure l) ∧ (s.measure l).classifier = s.classifier := by
  by_cases active : l.synthetic = false ∧ (s.engine.lock = .acquire ∨ s.engine.lock = .locked)
  · cases hg : (s.engine.takeStep l.step).measureFrom ((s.engine.takeStep l.step).target l.stamp) with
    | none =>
      rw [s.measure_empty l active hg]
      exact ⟨lockHalfOnly_setEngine s _, rfl⟩
    | some g =>
      have measured := s.measure_some l active hg
      dsimp only at measured
      rw [measured]
      refine ⟨lockHalfOnly_trans (lockHalfOnly_setEngine s _) (lockHalfOnly_trans (lockHalfOnly_postAll _ _)
        (lockHalfOnly_trans (lockHalfOnly_testUpdate _) (lockHalfOnly_postAll _ _))), ?_⟩
      rw [State.postAll_classifier, State.testUpdate_classifier, State.postAll_classifier, State.setEngine_classifier]
  · rw [s.measure_none l active]
    exact ⟨lockHalfOnly_refl s, rfl⟩

theorem lockHalfOnly_emitLine (s : State) (l : RefLine) : lockHalfOnly s (s.emitLine l) :=
  lockHalfOnly_trans (lockHalfOnly_storeWrite s l) (State.measure_lockHalf _ l).1

theorem State.emitLine_classifier (s : State) (l : RefLine) : (s.emitLine l).classifier = s.classifier :=
  (State.measure_lockHalf _ l).2.trans (s.storeWrite_classifier l)

theorem State.takeVerdict_lockHalf (s : State) (v : Verdict) :
    lockHalfOnly s (s.takeVerdict v).1 ∧ (s.takeVerdict v).1.classifier = s.classifier := by
  unfold State.takeVerdict State.enterAcquire
  split
  · split
    · dsimp only
      split
      · exact ⟨lockHalfOnly_changeLock .., State.changeLock_classifier ..⟩
      · exact ⟨lockHalfOnly_setEngine .., rfl⟩
    · exact ⟨lockHalfOnly_setEngine .., rfl⟩
  · exact ⟨lockHalfOnly_refl s, rfl⟩

theorem State.takeFieldStart_lockHalf (s : State) (f : RefField) :
    lockHalfOnly s (s.takeFieldStart f) ∧ (s.takeFieldStart f).classifier = s.classifier := by
  unfold State.takeFieldStart
  dsimp only
  split
  · exact ⟨⟨⟨rfl, rfl, rfl, rfl, rfl, rfl, rfl, rfl, rfl⟩, rfl, rfl⟩, rfl⟩
  · exact ⟨lockHalfOnly_setEngine .., rfl⟩

theorem State.takeLoss_lockHalf (s : State) : lockHalfOnly s s.takeLoss.1 ∧ s.takeLoss.1.classifier = s.classifier := by
  unfold State.takeLoss
  split
  any_goals
    dsimp only
    split <;> exact ⟨lockHalfOnly_changeLock .., State.changeLock_classifier ..⟩
  all_goals exact ⟨lockHalfOnly_of_eq rfl, rfl⟩

theorem State.takeLoss_reports (s : State) : s.takeLoss.1.reports = s.reports := by
  unfold State.takeLoss
  split
  any_goals
    dsimp only
    split <;> exact State.changeLock_reports ..
  all_goals rfl

/-! ## The engine's events beside a change of the classifier and the reports -/

theorem State.changeLock_setClassifier_setReports (s : State) (c : Classifier) (r : ReportUnit) (new : LockState) (setsK : Bool)
    (e : Engine) : ((s.setClassifier c).setReports r).changeLock new setsK e =
      (((s.changeLock new setsK e).1.setClassifier c).setReports r, (s.changeLock new setsK e).2) := by
  unfold State.changeLock
  dsimp only
  split <;> rfl

/-- A loss does in the lock engine what it does whatever the classifier and the reports are. -/
theorem State.takeLoss_setClassifier_setReports (s : State) (c : Classifier) (r : ReportUnit) :
    ((s.setClassifier c).setReports r).takeLoss = ((s.takeLoss.1.setClassifier c).setReports r, s.takeLoss.2) := by
  unfold State.takeLoss
  rw [State.setReports_engine, State.setClassifier_engine]
  split
  any_goals
    dsimp only
    split <;> exact State.changeLock_setClassifier_setReports ..
  all_goals rfl

/-- A verdict does in the lock engine what it does whatever the classifier is. -/
theorem State.takeVerdict_setClassifier (s : State) (c : Classifier) (v : Verdict) :
    (s.setClassifier c).takeVerdict v = ((s.takeVerdict v).1.setClassifier c, (s.takeVerdict v).2) := by
  unfold State.takeVerdict State.enterAcquire
  rw [State.setClassifier_engine]
  split
  · split
    · dsimp only
      split
      · exact State.changeLock_setClassifier_setReports s c s.reports ..
      · rfl
    · rfl
  · rfl

/-! ## Verdicts and field starts (R12 to R17) -/

/-- The wrong-standard test moves the run and the cause alone. -/
theorem Classifier.testStandard_eq (c : Classifier) (std : Standard) (k : Key) : (c.testStandard std k).1 =
    { c with wrongRun := (c.testStandard std k).1.wrongRun, mismatch := (c.testStandard std k).1.mismatch } := by
  unfold Classifier.testStandard
  split
  · dsimp only
    split <;> rfl
  · split
    · split <;> rfl
    · rfl

theorem Classifier.testStandard_wrongRun_le (c : Classifier) (std : Standard) (k : Key) :
    (c.testStandard std k).1.wrongRun ≤ 4 := by
  unfold Classifier.testStandard
  split
  · dsimp only
    split <;> exact countTo_le
  · split
    · split <;> exact Nat.zero_le _
    · exact Nat.zero_le _

/-- The classifier after the verdict on the field just ended: as it was when nothing was numbered (R16, R17). -/
def Classifier.judge (c : Classifier) (std : Standard) : Classifier :=
  match c.numbering with
  | .numbered k => { (c.testStandard std k).1 with
      verdict := some ⟨k.parity, k.line, c.isGood std k⟩, flywheel := c.isGood std k, previous := some k.parity }
  | _ => c

/-- The verdict sets the run, the cause, the verdict, the flywheel and the previous parity alone. -/
theorem Classifier.judge_eq (c : Classifier) (std : Standard) : c.judge std =
    { c with
      wrongRun := (c.judge std).wrongRun, mismatch := (c.judge std).mismatch, verdict := (c.judge std).verdict
      flywheel := (c.judge std).flywheel, previous := (c.judge std).previous } := by
  unfold Classifier.judge
  split
  · rw [Classifier.testStandard_eq]
  · rfl

theorem Classifier.judge_wrongRun_le {c : Classifier} (std : Standard) (h : c.wrongRun ≤ 4) : (c.judge std).wrongRun ≤ 4 := by
  unfold Classifier.judge
  split
  · exact c.testStandard_wrongRun_le std _
  · exact h

/-- The classifier that a field start leaves (R12, R14, R15, R16). -/
def Classifier.startField (c : Classifier) (std : Standard) (synthetic : Bool) (n : Numbering) : Classifier :=
  { c.judge std with badCount := 0, startSynthetic := synthetic, syncRun := true, numbering := n }

/-- Without a numbered field there is no verdict; with one the engine takes it, beside the classifier's judgement. -/
theorem State.giveVerdict_unnumbered {s : State} (h : ∀ k, s.classifier.numbering ≠ .numbered k) : s.giveVerdict = s := by
  unfold State.giveVerdict
  split
  · rename_i k hk
    exact absurd hk (h k)
  · rfl

theorem State.giveVerdict_numbered {s : State} {k : Key} (h : s.classifier.numbering = .numbered k) :
    let v : Verdict := ⟨k.parity, k.line, s.classifier.isGood s.timing.standard k⟩
    s.giveVerdict = ((s.takeVerdict v).1.setClassifier (s.classifier.judge s.timing.standard)).postWork none
      [(.classifier, (s.classifier.testStandard s.timing.standard k).2), (.engine, (s.takeVerdict v).2)] := by
  unfold State.giveVerdict Classifier.judge
  rw [h]
  dsimp only
  rw [State.takeVerdict_setClassifier]

theorem State.giveVerdict_classifier (s : State) : s.giveVerdict.classifier = s.classifier.judge s.timing.standard := by
  by_cases numbered : ∃ k, s.classifier.numbering = .numbered k
  · obtain ⟨k, h⟩ := numbered
    have given := State.giveVerdict_numbered h
    dsimp only at given
    rw [given, State.postWork_classifier, State.setClassifier_classifier]
  · have none : ∀ k, s.classifier.numbering ≠ .numbered k := fun k h => numbered ⟨k, h⟩
    rw [State.giveVerdict_unnumbered none]
    unfold Classifier.judge
    split
    · rename_i k h
      exact absurd h (none k)
    · rfl

theorem lockHalfOnly_giveVerdict (s : State) : lockHalfOnly s s.giveVerdict := by
  by_cases numbered : ∃ k, s.classifier.numbering = .numbered k
  · obtain ⟨k, h⟩ := numbered
    have given := State.giveVerdict_numbered h
    dsimp only at given
    rw [given]
    exact lockHalfOnly_trans (s.takeVerdict_lockHalf _).1
      (lockHalfOnly_trans (lockHalfOnly_setClassifier _ _) (lockHalfOnly_postWork _ _ _))
  · rw [State.giveVerdict_unnumbered fun k h => numbered ⟨k, h⟩]
    exact lockHalfOnly_refl s

theorem State.startRefField_classifier (s : State) (f : RefField) (n : Numbering) :
    (s.startRefField f n).classifier = s.classifier.startField s.timing.standard f.synthetic n := by
  unfold State.startRefField
  dsimp only
  rw [(State.takeFieldStart_lockHalf _ f).2, State.setClassifier_classifier, State.giveVerdict_classifier]
  rfl

theorem lockHalfOnly_startRefField (s : State) (f : RefField) (n : Numbering) : lockHalfOnly s (s.startRefField f n) :=
  lockHalfOnly_trans (lockHalfOnly_giveVerdict s)
    (lockHalfOnly_trans (lockHalfOnly_setClassifier _ _) (State.takeFieldStart_lockHalf _ f).1)

theorem Classifier.startField_tracking (c : Classifier) (std : Standard) (synthetic : Bool) (n : Numbering) :
    ((c.startField std synthetic n).tracking, (c.startField std synthetic n).refAbsent) = (c.tracking, c.refAbsent) := by
  unfold Classifier.startField
  rw [Classifier.judge_eq]

theorem Classifier.startField_inRange {c : Classifier} {std : Standard} {synthetic : Bool} {n : Numbering}
    (first : ∀ k, n = .numbered k → k.line = 1) (range : c.inRange std) : (c.startField std synthetic n).inRange std := by
  obtain ⟨synth, bad, wrong, lavg, windows, -⟩ := range
  have judged := Classifier.judge_wrongRun_le std wrong
  have line : ∀ k, n = .numbered k → 1 ≤ k.line ∧ k.line < (c.startField std synthetic n).flywheelLimit std k.parity := by
    intro k hk
    rw [first k hk]
    exact ⟨Nat.le_refl 1, one_lt_flywheelLimit _ std k.parity⟩
  refine ⟨?_, Nat.zero_le _, judged, ?_, ?_, line⟩
  · unfold Classifier.startField
    rw [Classifier.judge_eq]
    exact synth
  · unfold Classifier.startField
    rw [Classifier.judge_eq]
    exact lavg
  · unfold Classifier.startField
    rw [Classifier.judge_eq]
    exact windows

/-- A field start in TRACK that leaves no line number, or the first. -/
theorem Keeps.startRefField {s : State} (track : s.classifier.tracking = .track) (f : RefField) {n : Numbering}
    (first : ∀ k, n = .numbered k → k.line = 1) : Keeps s (s.startRefField f n) := by
  have started : Keeps s (s.giveVerdict.setClassifier (s.classifier.startField s.timing.standard f.synthetic n)) := by
    by_cases numbered : ∃ k, s.classifier.numbering = .numbered k
    · obtain ⟨k, h⟩ := numbered
      have given := State.giveVerdict_numbered h
      dsimp only at given
      rw [given]
      obtain ⟨⟨⟨-, timing, -⟩, -⟩, classifier⟩ :=
        s.takeVerdict_lockHalf ⟨k.parity, k.line, s.classifier.isGood s.timing.standard k⟩
      have verdict := Keeps.takeVerdict track ⟨k.parity, k.line, s.classifier.isGood s.timing.standard k⟩
      generalize s.takeVerdict ⟨k.parity, k.line, s.classifier.isGood s.timing.standard k⟩ = r at timing classifier verdict ⊢
      have standard : r.1.timing.standard = s.timing.standard := by rw [timing]
      refine verdict.trans (.trans (t := r.1.setClassifier (s.classifier.startField s.timing.standard f.synthetic n)) ?_ ?_)
      · refine .setClassifier_track (by rw [classifier]; exact track) ?_ ?_
        · rw [Classifier.startField_tracking, classifier]
        · rw [classifier, standard]
          exact Classifier.startField_inRange first
      · refine .of_units_eq (fun bounded => ?_) (by simp)
        exact (Keeps.postWork (r.1.setClassifier (s.classifier.judge s.timing.standard)) none _).queues bounded
    · rw [State.giveVerdict_unnumbered fun k h => numbered ⟨k, h⟩]
      exact .setClassifier_track track (Classifier.startField_tracking ..) (Classifier.startField_inRange first)
  have eq : s.startRefField f n =
      (s.giveVerdict.setClassifier (s.classifier.startField s.timing.standard f.synthetic n)).takeFieldStart f := by
    unfold State.startRefField Classifier.startField
    dsimp only
    rw [State.giveVerdict_classifier]
  rw [eq]
  exact started.trans (.takeFieldStart _ f)

/-! ## Numbering (R13, R14) -/

/-- A grid line start in TRACK is numbered with the properties kept, in TRACK still. -/
theorem State.numberLine_keeps {s : State} (track : s.classifier.tracking = .track) (stamp : Stamp) :
    Keeps s (s.numberLine stamp).1 ∧ (s.numberLine stamp).1.classifier.tracking = .track := by
  unfold State.numberLine
  split
  · exact ⟨.refl s, track⟩
  · rename_i p h
    refine ⟨.setClassifier_track track rfl fun range => ?_, track⟩
    obtain ⟨synth, bad, wrong, lavg, windows, -⟩ := range
    refine ⟨synth, bad, wrong, lavg, windows, fun k hk => ?_⟩
    cases hk
    exact ⟨Nat.le_refl 1, one_lt_flywheelLimit ..⟩
  · rename_i k h
    split
    · refine ⟨.startRefField track _ fun k' hk => ?_, ?_⟩
      · cases hk
        rfl
      · rw [State.startRefField_classifier]
        exact (Prod.mk.inj (Classifier.startField_tracking ..)).1.trans track
    · rename_i inside
      refine ⟨.setClassifier_track track rfl fun range => ?_, track⟩
      obtain ⟨synth, bad, wrong, lavg, windows, line⟩ := range
      obtain ⟨low, high⟩ := line k h
      refine ⟨synth, bad, wrong, lavg, windows, fun k' hk => ?_⟩
      cases hk
      exact ⟨Nat.le_add_left 1 _, lt_of_le_of_ne high inside⟩

theorem lockHalfOnly_numberLine (s : State) (stamp : Stamp) : lockHalfOnly s (s.numberLine stamp).1 := by
  unfold State.numberLine
  split
  · exact lockHalfOnly_refl s
  · exact lockHalfOnly_setClassifier ..
  · split
    · exact lockHalfOnly_startRefField ..
    · exact lockHalfOnly_setClassifier ..

theorem State.numberBroad_keeps {s : State} (track : s.classifier.tracking = .track) (stamp : Stamp) :
    Keeps s (s.numberBroad stamp).1 ∧ (s.numberBroad stamp).1.classifier.tracking = .track := by
  unfold State.numberBroad
  split
  · refine ⟨.startRefField track _ fun k hk => ?_, ?_⟩
    · cases hk
      rfl
    · rw [State.startRefField_classifier]
      exact (Prod.mk.inj (Classifier.startField_tracking ..)).1.trans track
  · exact State.numberLine_keeps track stamp
  · obtain ⟨keeps, track'⟩ := State.numberLine_keeps (s := s.setClassifier s.classifier.countBad) track stamp
    exact ⟨(Keeps.countBad s).trans keeps, track'⟩

theorem lockHalfOnly_numberBroad (s : State) (stamp : Stamp) : lockHalfOnly s (s.numberBroad stamp).1 := by
  unfold State.numberBroad
  split
  · exact lockHalfOnly_startRefField ..
  · exact lockHalfOnly_numberLine ..
  · exact lockHalfOnly_trans (lockHalfOnly_setClassifier ..) (lockHalfOnly_numberLine ..)

/-! ## Line starts (R6, R7, R9, R10) -/

/-- The average that an ordinary line start leaves is clamped, or stands. -/
theorem Classifier.updateLavg_eq (c : Classifier) (std : Standard) (stamp : Stamp) :
    c.updateLavg std stamp = c ∨ ∃ v, c.updateLavg std stamp = { c with lavg := clampLavg std v } := by
  unfold Classifier.updateLavg
  split
  · split
    · exact Or.inr ⟨_, rfl⟩
    · exact Or.inl rfl
  · exact Or.inl rfl

/-- What the class of a pulse does touches the mid-line window and the field-sync run alone. -/
theorem Classifier.takeClass_eq (c : Classifier) (cls : PulseClass) :
    c.takeClass cls = { c with midLine := (c.takeClass cls).midLine, syncRun := (c.takeClass cls).syncRun } := by
  cases cls <;> rfl

/-- The classifier with an accepted pulse judged: the count of synthetic line starts 0, the average and the flags brought up to
date. -/
def Classifier.accept (c : Classifier) (std : Standard) (cls : PulseClass) (stamp : Stamp) (ordinary : Bool) : Classifier :=
  (if ordinary then { c with synthCount := 0 }.updateLavg std stamp else { c with synthCount := 0 }).takeClass cls

theorem Classifier.accept_eq (c : Classifier) (std : Standard) (cls : PulseClass) (stamp : Stamp) (ordinary : Bool) :
    ∃ lavg midLine syncRun, c.accept std cls stamp ordinary =
      { c with synthCount := 0, lavg := lavg, midLine := midLine, syncRun := syncRun } ∧
      (lavg = c.lavg ∨ ∃ v, lavg = clampLavg std v) := by
  unfold Classifier.accept
  rw [Classifier.takeClass_eq]
  split
  · obtain e | ⟨v, e⟩ := Classifier.updateLavg_eq { c with synthCount := 0 } std stamp <;> rw [e]
    · exact ⟨_, _, _, rfl, Or.inl rfl⟩
    · exact ⟨_, _, _, rfl, Or.inr ⟨v, rfl⟩⟩
  · exact ⟨_, _, _, rfl, Or.inl rfl⟩

theorem State.acceptGrid_eq (s : State) (cls : PulseClass) (stamp : Stamp) (step : Option Int) :
    s.acceptGrid cls stamp step =
      (let judged := s.setClassifier (s.classifier.accept s.timing.standard cls stamp step.isNone)
       let r := if cls = .broad then judged.numberBroad stamp else judged.numberLine stamp
       let t := r.1.emitLine ⟨stamp, r.2, false, step⟩
       t.setClassifier (t.classifier.anchorAt stamp true step.isSome)) := rfl

/-- An accepted pulse in TRACK keeps the properties, and TRACK. -/
theorem State.acceptGrid_keeps {s : State} (track : s.classifier.tracking = .track) (cls : PulseClass) (stamp : Stamp)
    (step : Option Int) :
    Keeps s (s.acceptGrid cls stamp step) ∧ (s.acceptGrid cls stamp step).classifier.tracking = .track := by
  rw [State.acceptGrid_eq]
  obtain ⟨lavg, midLine, syncRun, accepted, average⟩ :=
    s.classifier.accept_eq s.timing.standard cls stamp step.isNone
  dsimp only
  rw [accepted]
  generalize hj : s.setClassifier { s.classifier with
    synthCount := 0, lavg := lavg, midLine := midLine, syncRun := syncRun } = judged
  have keepsJudged : Keeps s judged := by
    rw [← hj]
    refine .setClassifier_same rfl fun range => ?_
    obtain ⟨-, bad, wrong, oldAverage, windows, line⟩ := range
    refine ⟨Nat.zero_le _, bad, wrong, ?_, windows, line⟩
    obtain rfl | ⟨v, rfl⟩ := average
    · exact oldAverage
    · exact clampLavg_range s.timing.standard v
  have trackJudged : judged.classifier.tracking = .track := by
    rw [← hj]
    exact track
  have numbered : Keeps judged (if cls = .broad then judged.numberBroad stamp else judged.numberLine stamp).1 ∧
      (if cls = .broad then judged.numberBroad stamp else judged.numberLine stamp).1.classifier.tracking = .track := by
    split
    · exact State.numberBroad_keeps trackJudged stamp
    · exact State.numberLine_keeps trackJudged stamp
  refine ⟨keepsJudged.trans (numbered.1.trans ((Keeps.emitLine _ _).trans (.anchorAt ..))), ?_⟩
  rw [State.setClassifier_classifier, State.emitLine_classifier]
  exact numbered.2

theorem lockHalfOnly_acceptGrid (s : State) (cls : PulseClass) (stamp : Stamp) (step : Option Int) :
    lockHalfOnly s (s.acceptGrid cls stamp step) := by
  rw [State.acceptGrid_eq]
  dsimp only
  refine lockHalfOnly_trans (lockHalfOnly_setClassifier s (s.classifier.accept s.timing.standard cls stamp step.isNone)) ?_
  generalize s.setClassifier (s.classifier.accept s.timing.standard cls stamp step.isNone) = judged
  refine lockHalfOnly_trans ?_ (lockHalfOnly_trans (lockHalfOnly_emitLine ..) (lockHalfOnly_setClassifier ..))
  split
  · exact lockHalfOnly_numberBroad ..
  · exact lockHalfOnly_numberLine ..

/-- The classifier after a loss (R10). -/
def Classifier.lost (c : Classifier) : Classifier :=
  { c with
    tracking := .search, refAbsent := true, prediction := none, midLine := false, syncRun := false
    numbering := .unnumbered, badCount := 0, synthCount := 0, previous := none, flywheel := false, wrongRun := 0
    candidate := none, closeHeld := false }

/-- A loss: the lock engine's part, the classifier's, and REF_LOST before the engine's reports. -/
theorem State.loseReference_eq (s : State) : s.loseReference =
    (((s.takeLoss.1.setClassifier s.classifier.lost).setReports (s.post (lockPost .refLost 0 0)).reports).postAll
      s.takeLoss.2) := by
  change ((((s.setClassifier s.classifier.lost).setReports (s.post (lockPost .refLost 0 0)).reports).takeLoss).1.postAll
    (((s.setClassifier s.classifier.lost).setReports (s.post (lockPost .refLost 0 0)).reports).takeLoss).2) = _
  rw [State.takeLoss_setClassifier_setReports]

theorem Keeps.loseReference (s : State) : Keeps s s.loseReference := by
  rw [State.loseReference_eq]
  obtain ⟨loss, untracked⟩ := Keeps.takeLoss s
  obtain ⟨⟨⟨-, timing, -⟩, -⟩, classifier⟩ := s.takeLoss_lockHalf
  have standard : s.takeLoss.1.timing.standard = s.timing.standard := by rw [timing]
  have posted := (Keeps.post s (lockPost .refLost 0 0)).queues
  have lost : Keeps s.takeLoss.1 (s.takeLoss.1.setClassifier s.classifier.lost) := by
    refine .setClassifier (fun _ => ⟨⟨fun _ => rfl, fun _ => rfl⟩, fun _ => rfl⟩) (fun _ => Or.inr untracked) ?_
    rw [classifier, standard]
    rintro ⟨-, -, -, lavg, windows, -⟩
    exact ⟨Nat.zero_le _, Nat.zero_le _, Nat.zero_le _, lavg, windows, nofun⟩
  refine (loss.trans lost).trans (Keeps.trans (.setReports fun bounded => posted ?_) (.postAll _ _))
  rw [← s.takeLoss_reports]
  exact bounded

theorem lockHalfOnly_loseReference (s : State) : lockHalfOnly s s.loseReference := by
  rw [State.loseReference_eq]
  exact lockHalfOnly_trans s.takeLoss_lockHalf.1 (lockHalfOnly_trans (lockHalfOnly_setClassifier _ s.classifier.lost)
    (lockHalfOnly_trans (lockHalfOnly_setReports ..) (lockHalfOnly_postAll ..)))

/-- A synthetic line start counted in the classifier. -/
def Classifier.countSynthetic (c : Classifier) : Classifier := { c.countBad with synthCount := countTo 63 c.synthCount }

theorem Keeps.countSynthetic (s : State) : Keeps s (s.setClassifier s.classifier.countSynthetic) := by
  refine .setClassifier_same rfl fun range => ?_
  obtain ⟨-, -, wrong, lavg, windows, line⟩ := range
  exact ⟨countTo_le, countTo_le, wrong, lavg, windows, line⟩

/-- The SYNTHETIC line start of a prediction, before a loss is tested (R9). -/
def State.syntheticLine (s : State) (p : Prediction) : State :=
  let r := s.numberLine p.stamp
  let t := (r.1.setClassifier r.1.classifier.countSynthetic).emitLine ⟨p.stamp, r.2, true, none⟩
  t.setClassifier (t.classifier.anchorAt p.stamp false false)

theorem State.makeSynthetic_some {s : State} {p : Prediction} (h : s.classifier.prediction = some p) :
    s.makeSynthetic =
      if (s.syntheticLine p).classifier.nloss ≤ (s.syntheticLine p).classifier.synthCount then (s.syntheticLine p).loseReference
      else s.syntheticLine p := by
  unfold State.makeSynthetic
  rw [h]
  rfl

theorem State.makeSynthetic_none {s : State} (h : s.classifier.prediction = none) : s.makeSynthetic = s := by
  unfold State.makeSynthetic
  rw [h]

theorem Keeps.syntheticLine {s : State} (track : s.classifier.tracking = .track) (p : Prediction) : Keeps s (s.syntheticLine p) :=
  (State.numberLine_keeps track p.stamp).1.trans ((Keeps.countSynthetic _).trans ((Keeps.emitLine _ _).trans (.anchorAt ..)))

theorem lockHalfOnly_syntheticLine (s : State) (p : Prediction) : lockHalfOnly s (s.syntheticLine p) :=
  lockHalfOnly_trans (lockHalfOnly_numberLine ..) (lockHalfOnly_trans (lockHalfOnly_setClassifier ..)
    (lockHalfOnly_trans (lockHalfOnly_emitLine ..) (lockHalfOnly_setClassifier ..)))

theorem Keeps.makeSynthetic {s : State} (track : s.classifier.tracking = .track) : Keeps s s.makeSynthetic := by
  cases h : s.classifier.prediction with
  | none =>
    rw [State.makeSynthetic_none h]
    exact .refl s
  | some p =>
    rw [State.makeSynthetic_some h]
    split
    · exact (Keeps.syntheticLine track p).trans (.loseReference _)
    · exact .syntheticLine track p

theorem lockHalfOnly_makeSynthetic (s : State) : lockHalfOnly s s.makeSynthetic := by
  cases h : s.classifier.prediction with
  | none =>
    rw [State.makeSynthetic_none h]
    exact lockHalfOnly_refl s
  | some p =>
    rw [State.makeSynthetic_some h]
    split
    · exact lockHalfOnly_trans (lockHalfOnly_syntheticLine s p) (lockHalfOnly_loseReference _)
    · exact lockHalfOnly_syntheticLine s p

/-! ## Pulses (R1, R3, R4, R6) -/

theorem Keeps.releaseHeld {s : State} (track : s.classifier.tracking = .track) : Keeps s s.releaseHeld := by
  unfold State.releaseHeld
  split
  · exact .makeSynthetic track
  · exact .refl s

theorem lockHalfOnly_releaseHeld (s : State) : lockHalfOnly s s.releaseHeld := by
  unfold State.releaseHeld
  split
  · exact lockHalfOnly_makeSynthetic s
  · exact lockHalfOnly_refl s

/-- A stray counted, and a closing held back for it released. -/
theorem Keeps.stray {s : State} (track : s.classifier.tracking = .track) :
    Keeps s (s.setClassifier s.classifier.countBad).releaseHeld :=
  (Keeps.countBad s).trans (.releaseHeld track)

/-- The classifier on entry to TRACK (R4). -/
def Classifier.found (c : Classifier) (std : Standard) (stamp : Stamp) (spacing : Nat) : Classifier :=
  { c with
    lavg := clampLavg std spacing, anchor := some ⟨stamp, true, false⟩, synthCount := 0, badCount := 0
    numbering := .unnumbered, previous := none, flywheel := false, verdict := none, midLine := false, syncRun := false
    refAbsent := false, tracking := .track, candidate := none, closeHeld := false }

theorem State.enterTrack_eq (s : State) (stamp : Stamp) (spacing : Nat) : s.enterTrack stamp spacing =
    (let t := ((s.setClassifier (s.classifier.found s.timing.standard stamp spacing)).post (lockPost .refFound 0 0)).emitLine
       ⟨stamp, none, false, none⟩
     t.setClassifier (t.classifier.anchorAt stamp true false)) := rfl

theorem Keeps.enterTrack (s : State) (stamp : Stamp) (spacing : Nat) : Keeps s (s.enterTrack stamp spacing) := by
  have found : Keeps s (s.setClassifier (s.classifier.found s.timing.standard stamp spacing)) := by
    refine .setClassifier (fun _ => ⟨⟨nofun, nofun⟩, nofun⟩) nofun ?_
    rintro ⟨-, -, wrong, -, windows, -⟩
    exact ⟨Nat.zero_le _, Nat.zero_le _, wrong, clampLavg_range .., windows, nofun⟩
  exact found.trans ((Keeps.post _ _).trans ((Keeps.emitLine _ _).trans (.anchorAt ..)))

theorem lockHalfOnly_enterTrack (s : State) (stamp : Stamp) (spacing : Nat) : lockHalfOnly s (s.enterTrack stamp spacing) :=
  lockHalfOnly_trans (lockHalfOnly_setClassifier ..) (lockHalfOnly_trans (lockHalfOnly_post ..)
    (lockHalfOnly_trans (lockHalfOnly_emitLine ..) (lockHalfOnly_setClassifier ..)))

theorem Keeps.setCandidate (s : State) (c : Option Stamp) : Keeps s (s.setClassifier { s.classifier with candidate := c }) :=
  .setClassifier_same rfl (Classifier.inRange_of_eq rfl)

/-- A pulse in SEARCH does nothing, sets or clears the candidate, or opens TRACK (R3). -/
theorem State.pulseInSearch_cases (s : State) (cls : PulseClass) (stamp : Stamp) :
    s.pulseInSearch cls stamp = s ∨ (∃ c, s.pulseInSearch cls stamp = s.setClassifier { s.classifier with candidate := c }) ∨
      ∃ d, s.pulseInSearch cls stamp = s.enterTrack stamp d := by
  unfold State.pulseInSearch
  split
  · exact Or.inl rfl
  · split
    · exact Or.inr (Or.inl ⟨_, rfl⟩)
    · dsimp only
      split
      · exact Or.inr (Or.inr ⟨_, rfl⟩)
      · exact Or.inr (Or.inl ⟨_, rfl⟩)
  · exact Or.inr (Or.inl ⟨_, rfl⟩)

theorem State.midLinePulse_keeps {s : State} (track : s.classifier.tracking = .track) (cls : PulseClass) (stamp : Stamp) :
    Keeps s (s.midLinePulse cls stamp) ∧ (s.midLinePulse cls stamp).classifier.tracking = .track := by
  unfold State.midLinePulse
  split
  · split
    · refine ⟨.startRefField track _ nofun, ?_⟩
      rw [State.startRefField_classifier]
      exact (Prod.mk.inj (Classifier.startField_tracking ..)).1.trans track
    · exact ⟨.refl s, track⟩
    · exact ⟨.countBad s, track⟩
  · exact ⟨.refl s, track⟩

theorem lockHalfOnly_midLinePulse (s : State) (cls : PulseClass) (stamp : Stamp) :
    lockHalfOnly s (s.midLinePulse cls stamp) := by
  unfold State.midLinePulse
  split
  · split
    · exact lockHalfOnly_startRefField ..
    · exact lockHalfOnly_refl s
    · exact lockHalfOnly_setClassifier ..
  · exact lockHalfOnly_refl s

/-- A pulse in TRACK is no event, a stray, a mid-line pulse or a line start, the first three releasing a closing held back
(R6, R9). -/
theorem State.pulseInTrack_cases (s : State) (cls : PulseClass) (stamp : Stamp) :
    s.pulseInTrack cls stamp = s.releaseHeld ∨
    s.pulseInTrack cls stamp = (s.setClassifier s.classifier.countBad).releaseHeld ∨
    s.pulseInTrack cls stamp = (s.midLinePulse cls stamp).releaseHeld ∨
    ∃ step, s.pulseInTrack cls stamp = s.acceptGrid cls stamp step := by
  unfold State.pulseInTrack
  dsimp only
  split
  · exact Or.inl rfl
  · exact Or.inr (Or.inl rfl)
  · split
    · exact Or.inr (Or.inr (Or.inl rfl))
    · split
      · exact Or.inr (Or.inr (Or.inr ⟨_, rfl⟩))
      · split
        · exact Or.inr (Or.inr (Or.inr ⟨_, rfl⟩))
        · exact Or.inr (Or.inl rfl)

theorem Keeps.handlePulse (s : State) (cls : PulseClass) (stamp : Stamp) : Keeps s (s.handlePulse cls stamp) := by
  unfold State.handlePulse
  split
  · obtain e | ⟨c, e⟩ | ⟨d, e⟩ := s.pulseInSearch_cases cls stamp <;> rw [e]
    · exact .refl s
    · exact .setCandidate s c
    · exact .enterTrack s stamp d
  · rename_i track
    obtain e | e | e | ⟨step, e⟩ := s.pulseInTrack_cases cls stamp <;> rw [e]
    · exact .releaseHeld track
    · exact .stray track
    · obtain ⟨keeps, track'⟩ := State.midLinePulse_keeps track cls stamp
      exact keeps.trans (.releaseHeld track')
    · exact (State.acceptGrid_keeps track cls stamp step).1

theorem lockHalfOnly_handlePulse (s : State) (cls : PulseClass) (stamp : Stamp) : lockHalfOnly s (s.handlePulse cls stamp) := by
  unfold State.handlePulse
  split
  · obtain e | ⟨c, e⟩ | ⟨d, e⟩ := s.pulseInSearch_cases cls stamp <;> rw [e]
    · exact lockHalfOnly_refl s
    · exact lockHalfOnly_setClassifier ..
    · exact lockHalfOnly_enterTrack s stamp d
  · obtain e | e | e | ⟨step, e⟩ := s.pulseInTrack_cases cls stamp <;> rw [e]
    · exact lockHalfOnly_releaseHeld s
    · exact lockHalfOnly_trans (lockHalfOnly_setClassifier ..) (lockHalfOnly_releaseHeld _)
    · exact lockHalfOnly_trans (lockHalfOnly_midLinePulse s cls stamp) (lockHalfOnly_releaseHeld _)
    · exact lockHalfOnly_acceptGrid ..

end Sys2Proof.Machine

/-! What the requests keep: the values a request may store, and the answer of every request (spec/10, Tables 10-E and 10-F). -/

namespace Sys2Proof.Machine

/-! ## The timing restart (R20, R40, R64) -/

/-- The engine after a timing restart. -/
def Engine.restarted (e : Engine) (std : Standard) (lpix : Nat) : Engine :=
  let k0 := nominalIncrement std lpix
  { e with
    k0 := k0, kspan := k0 / 64, k := k0, i := 0, s := 0, e := 0, qual := 0, lockRun := 0, dropRun := 0
    missRun := 0, holdover := 0, vmatch := false }

theorem State.engineRestart_eq (s : State) : s.engineRestart =
    s.changeLock .free true (s.engine.restarted s.timing.standard s.timing.lpix) := rfl

theorem State.engineRestart_timing (s : State) : s.engineRestart.1.timing = { s.timing with jam := none } := by
  rw [State.engineRestart_eq, State.changeLock_timing]
  rfl

theorem State.timingRestart_engine (s : State) (changed : Bool) : (s.timingRestart changed).engine =
    { s.engine.restarted s.timing.standard s.timing.lpix with lock := .free, unlocked := true, atLimit := false } := by
  unfold State.timingRestart
  simp only [State.postWork_engine, State.setTiming_engine, State.setClassifier_engine]
  rw [State.engineRestart_eq, State.changeLock_engine]
  simp [LockState.isUnlocked]

theorem State.timingRestart_timing (s : State) (changed : Bool) : (s.timingRestart changed).timing =
    { s.timing with jam := none, restartPending := true } := by
  unfold State.timingRestart
  simp only [State.postWork_timing, State.setTiming_timing]
  rw [State.engineRestart_timing]

theorem State.timingRestart_classifier (s : State) (changed : Bool) : (s.timingRestart changed).classifier =
    (s.classifier.restart s.timing.standard changed).1 := by
  unfold State.timingRestart
  simp only [State.postWork_classifier, State.setTiming_classifier, State.setClassifier_classifier]
  rw [State.engineRestart_timing, State.engineRestart_eq, State.changeLock_classifier]

theorem State.timingRestart_store (s : State) (changed : Bool) : (s.timingRestart changed).store = s.store.handed .free := by
  unfold State.timingRestart
  simp only [State.postWork_store, State.setTiming_store, State.setClassifier_store]
  rw [State.engineRestart_eq, State.changeLock_store]

theorem State.timingRestart_mixer (s : State) (changed : Bool) :
    (s.timingRestart changed).mixer = { s.mixer with recorded := .free } := by
  unfold State.timingRestart
  simp only [State.postWork_mixer, State.setTiming_mixer, State.setClassifier_mixer]
  rw [State.engineRestart_eq, State.changeLock_mixer]

/-- The reports of a timing restart are those of the engine and of the classifier, in the order of their turns (log 13). -/
theorem State.timingRestart_reports_bounded {s : State} (changed : Bool) (bounded : s.reports.bounded) :
    (s.timingRestart changed).reports.bounded := by
  unfold State.timingRestart
  refine (Keeps.postWork _ none _).queues ?_
  rw [State.setTiming_reports, State.setClassifier_reports, State.engineRestart_eq, State.changeLock_reports]
  exact bounded

/-- A timing restart after a change of the raster settings keeps every property: the position is not claimed while the restart
carry is awaited, and K0, Kspan and the average follow the new settings. -/
theorem Keeps.timingRestart {s : State} {t : Timing} (changed : Bool) (low : 320 ≤ s.timing.lpix → 320 ≤ t.lpix)
    (high : s.timing.lpix ≤ 1400 → t.lpix ≤ 1400) (latency : s.timing.latency ≤ 15 → t.latency ≤ 15) :
    Keeps s ((s.setTiming t).timingRestart changed) := by
  obtain ⟨-, -, banks, fades, cues, -, pending⟩ := (s.setTiming t).timingRestart_keeps changed
  have engine := (s.setTiming t).timingRestart_engine changed
  have timing := (s.setTiming t).timingRestart_timing changed
  have classifier := (s.setTiming t).timingRestart_classifier changed
  have store := (s.setTiming t).timingRestart_store changed
  have mixer := (s.setTiming t).timingRestart_mixer changed
  have bounded := State.timingRestart_reports_bounded (s := s.setTiming t) changed
  generalize (s.setTiming t).timingRestart changed = u at banks fades cues pending engine timing classifier store mixer bounded
  have lockOk := (s.setTiming t).changeLock_lockOk .free true (s.engine.restarted t.standard t.lpix)
  refine ⟨⟨pending, bounded, fun _ => ?_, fun _ => ?_, fun ok => ?_, fun ok => ?_, fun ok => ?_, fun ok => ?_, ?_, ?_, ?_⟩, fun ok => ?_⟩
  · unfold State.lockOk at lockOk ⊢
    rw [State.changeLock_store, State.changeLock_mixer, State.changeLock_engine] at lockOk
    rw [store, mixer, engine]
    exact lockOk
  · refine ⟨?_, fun _ => ⟨?_, ?_, ?_⟩⟩
    · rw [classifier]
      exact ⟨fun _ => rfl, fun _ => rfl⟩
    · rw [classifier]
      rfl
    · rw [engine]
      exact nofun
    · rw [engine]
      exact nofun
  · obtain ⟨-, -, -, -, windows, -⟩ := ok
    rw [State.classifierOk_iff, classifier, timing]
    refine ⟨Nat.zero_le _, Nat.zero_le _, Nat.zero_le _, ?_, windows, nofun⟩
    simp [Classifier.restart]
  · rw [store]
    exact Store.handed_slotsOk .free ok
  · obtain ⟨⟨lpixLow, lpixHigh⟩, -, -, range⟩ := s.loopOk_iff.mp ok
    obtain ⟨-, -, -, -, -, history⟩ := range
    rw [State.loopOk_iff, engine, timing]
    exact ⟨⟨low lpixLow, high lpixHigh⟩, rfl, rfl, ⟨Nat.le_add_right _ _, Nat.le_add_right _ _⟩, Nat.zero_le _, Nat.zero_le _,
      fun _ => rfl, Nat.zero_le _, history⟩
  · unfold State.mixerOk
    rw [timing, mixer]
    exact ⟨latency ok.1, ok.2⟩
  · rw [banks]
    exact id
  · unfold State.fadesOk
    rw [fades, cues]
    exact id
  · rw [cues]
    exact id
  · unfold State.positionOk
    rw [timing]
    exact ⟨low ok.1, Or.inl rfl⟩

/-! ## The mixer's values (R84, R86, R87, R98) -/

theorem legalColour_legal (y cb cr : Nat) : legal (legalColour y cb cr) := by
  have hy := clampNat_bounds (show 16 ≤ 235 by decide) y
  have hcb := clampNat_bounds (show 16 ≤ 240 by decide) cb
  have hcr := clampNat_bounds (show 16 ≤ 240 by decide) cr
  unfold legal legalColour
  simp only [BitVec.toNat_ofNat]
  omega

theorem Vector.getElem_set_cases {α : Type} {n : Nat} {P : α → Prop} {v : Vector α n} {i : Fin n} {x : α}
    (h : ∀ j : Fin n, P v[j]) (hx : P x) (j : Fin n) : P (v.set i x)[j] := by
  by_cases e : i = j
  · subst e
    simpa using hx
  · have ne : (i : Nat) ≠ j := fun he => e (Fin.ext he)
    simpa [Vector.getElem_set_ne _ _ ne] using h j

theorem Mixer.editColour_ok {m : Mixer} (i : Fin 16) {e : ColourEntry} (he : legal e.colour) (ok : m.ok) :
    (m.editColour i e).ok := by
  unfold Mixer.editColour
  split
  · exact ok
  · obtain ⟨table, others⟩ := ok
    exact ⟨Vector.getElem_set_cases (P := fun x : ColourEntry => legal x.colour) table he, others⟩

theorem Mixer.editMatte_ok {m : Mixer} {c : Sample} (hc : legal c) (ok : m.ok) : (m.editMatte c).ok := by
  unfold Mixer.editMatte
  split
  · exact ok
  · obtain ⟨table, -, others⟩ := ok
    exact ⟨table, hc, others⟩

theorem Mixer.editPolicy_ok {m : Mixer} (p : LossPolicy) (ok : m.ok) : (m.editPolicy p).ok := by
  unfold Mixer.editPolicy
  split <;> exact ok

theorem Mixer.writeKeyer_ok {m : Mixer} (v : Bool) (ok : m.ok) : (m.writeKeyer v).ok := by
  obtain ⟨table, matte, ctx, prevCtx, output, pipeline, -⟩ := ok
  refine ⟨table, matte, ctx, prevCtx, output, pipeline, ?_⟩
  unfold Mixer.writeKeyer
  dsimp only
  split
  · exact nofun
  · rename_i h
    exact fun e => h (Option.some.inj e)

theorem Mixer.edit_recorded (m : Mixer) (i : Fin 16) (e : ColourEntry) (c : Sample) (p : LossPolicy) :
    (m.editColour i e).recorded = m.recorded ∧ (m.editMatte c).recorded = m.recorded ∧
      (m.editPolicy p).recorded = m.recorded := by
  unfold Mixer.editColour Mixer.editMatte Mixer.editPolicy
  refine ⟨?_, ?_, ?_⟩ <;> split <;> rfl

/-! ## The banks' values (R103, R104, R106) -/

theorem Banks.windows_setWindows (b : Banks) (n m : BankName) (ws : Vector Window 8) :
    (b.setWindows n ws).windows m = if m = n then ws else b.windows m := by
  cases n <;> cases m <;> rfl

theorem Banks.edit_ok {b : Banks} (n : BankName) (i : Fin 8) {w : Window} (hw : w.ok) (ok : b.ok) : (b.edit n i w).ok := by
  intro m j
  unfold Banks.edit
  rw [Banks.windows_setWindows]
  split
  · exact Vector.getElem_set_cases (ok n) hw j
  · exact ok m j

/-- A swap that becomes pending leaves the windows. -/
theorem Banks.setSwap_ok {b : Banks} (live : BankName) (swap : Option Bool) (ok : b.ok) :
    { b with live := live, swap := swap }.ok := by
  intro n
  cases n
  · exact ok .a
  · exact ok .b

theorem Banks.writeSwap_some {b b' : Banks} {copy : Bool} (h : b.writeSwap copy = some b') :
    b.swap = none ∧ b' = { b with swap := some copy } := by
  unfold Banks.writeSwap at h
  split at h
  · rename_i none
    exact ⟨none, (Option.some.inj h).symm⟩
  · cases h

theorem Window.cleared_ok : Window.cleared.ok := by
  unfold Window.ok Window.cleared LevelSource.ok
  decide

/-- A record that passes the checks of R103 is within its ranges. -/
theorem windowOf_ok {e t b l r m k v : Nat} {w : Window} (h : windowOf e t b l r m k v = some w) : w.ok := by
  unfold windowOf at h
  split at h
  · rename_i source hs
    cases h
    have lines : 1 ≤ 313 := by decide
    refine ⟨clampNat_bounds lines t, clampNat_bounds lines b, (clampNat_bounds (Nat.zero_le 2047) l).2,
      (clampNat_bounds (Nat.zero_le 2047) r).2, ?_⟩
    unfold levelSourceOf at hs
    split at hs
    · cases hs
      exact (clampNat_bounds (Nat.zero_le 256) v).2
    · obtain ⟨g, -, rfl⟩ := Option.map_eq_some_iff.mp hs
      trivial
    · cases hs
  · cases h

/-! ## The generators' values (R111, R116, R117) -/

theorem signed_two_bounds (v : Nat) : -32768 ≤ signed 2 v ∧ signed 2 v ≤ 32767 := by
  have low := BitVec.le_toInt (BitVec.ofNat (8 * 2) v)
  have high := BitVec.toInt_lt (x := BitVec.ofNat (8 * 2) v)
  unfold signed
  omega

/-- A load that passes the checks of R116 is within its bounds. -/
theorem loadOf_range {gen level step lo hi kind : Nat} {g : Fin 4} {p : FadeParams}
    (h : loadOf gen level step lo hi kind = some (g, p)) : fadeRange p.kind p.level p.step p.lo p.hi := by
  unfold loadOf at h
  split at h
  · rename_i k _ _
    dsimp only at h
    split_ifs at h with order wrap bounce
    cases h
    have high := (clampNat_bounds (show 0 ≤ 65536 by decide) hi).2
    have level' := clampNat_bounds (Nat.le_of_not_lt order) (clampNat 0 65536 level)
    refine ⟨⟨level'.1, level'.2, high⟩, signed_two_bounds step, fun hk => ?_, fun hk => ⟨?_, ?_⟩⟩
    · by_contra far
      exact wrap ⟨hk, Nat.le_of_not_lt far⟩
    · by_contra far
      exact bounce ⟨hk, Or.inl (Nat.lt_of_not_le far)⟩
    · exact fun least => bounce ⟨hk, Or.inr least⟩
  · cases h

theorem Fade.load_ok {f : Fade} {p : FadeParams} (hp : fadeRange p.kind p.level p.step p.lo p.hi) (ok : f.ok) : (f.load p).ok :=
  ⟨hp, ok.2⟩

/-! ## The cues' values (R123, R125 to R135) -/

/-- All four lists of the pool. -/
def CuePool.all (p : CuePool) : List (Fin 64) := p.free ++ p.armed ++ p.held ++ p.done

theorem CuePool.setOn_all {p : CuePool} {l : CueList} {ids : List (Fin 64)} {i : Fin 64} (h : ids.Perm (i :: p.on l)) :
    (p.setOn l ids).all.Perm (i :: p.all) := by
  rw [List.perm_iff_count]
  intro x
  have count := h.count_eq x
  cases l <;> simp only [CuePool.on] at count <;>
    simp only [CuePool.all, CuePool.setOn, List.count_append, List.count_cons] at count ⊢ <;> omega

theorem CuePool.setOn_setOn_self (p : CuePool) (l : CueList) (ids : List (Fin 64)) : (p.setOn l ids).setOn l (p.on l) = p := by
  cases l <;> rfl

/-- A cue on its list, and the pool with it removed. -/
theorem CuePool.remove_all {p : CuePool} (ok : p.ok) (i : Fin 64) : p.all.Perm (i :: (p.remove i).all) := by
  have on := (p.listOf_iff ok i (p.listOf i)).mp rfl
  have restored : ((p.remove i).setOn (p.listOf i) (p.on (p.listOf i))) = p := p.setOn_setOn_self _ _
  have perm := CuePool.setOn_all (p := p.remove i) (l := p.listOf i) (ids := p.on (p.listOf i)) (i := i) (by
    rw [p.on_remove ok]
    exact List.perm_cons_erase on)
  rwa [restored] at perm

/-- A move keeps every cue on exactly one list. -/
theorem CuePool.move_all {p : CuePool} (ok : p.ok) (i : Fin 64) (l : CueList) (at' : Place) : (p.move i l at').all.Perm p.all :=
  (CuePool.setOn_all (insertAt_perm i at' _)).trans (CuePool.remove_all ok i).symm

/-- A move off FREE, or between other lists, keeps the pool's property. -/
theorem CuePool.move_ok {p : CuePool} (ok : p.ok) (i : Fin 64) {l : CueList} (hl : l ≠ .free) (at' : Place) :
    (p.move i l at').ok := by
  refine ⟨(CuePool.move_all ok i l at').trans ok.1, fun j hj => ?_⟩
  rw [CuePool.records_move]
  refine ok.2 j (List.mem_of_mem_erase (a := j) (b := i) ?_)
  have free := p.on_move_ne ok i (Ne.symm hl) at'
  change (p.move i l at').free = p.free.erase i at free
  rw [← free]
  exact hj

theorem CuePool.setRecord_ok {p : CuePool} (ok : p.ok) (i : Fin 64) {c : Cue} (hc : i ∈ p.free → c.pending = false) :
    (p.setRecord i c).ok := by
  refine ⟨ok.1, fun j hj => ?_⟩
  change ((p.records.set i c)[j]).pending = false
  by_cases e : i = j
  · subst e
    simpa using hc hj
  · have ne : (i : Nat) ≠ j := fun he => e (Fin.ext he)
    simpa [Vector.getElem_set_ne _ _ ne] using ok.2 j hj

theorem CuePool.clearFired_ok {p : CuePool} (ok : p.ok) (i : Fin 64) : (p.clearFired i).ok :=
  CuePool.setRecord_ok ok i fun _ => rfl

/-- A discard puts the cue on FREE with its pending flag clear. -/
theorem CuePool.discard_ok {p : CuePool} (ok : p.ok) (i : Fin 64) : ((p.move i .free .tail).clearFired i).ok := by
  refine ⟨(CuePool.move_all ok i .free .tail).trans ok.1, fun j hj => ?_⟩
  change (((p.move i .free .tail).records.set i _)[j]).pending = false
  by_cases e : i = j
  · subst e
    simp
  · have ne : (i : Nat) ≠ j := fun he => e (Fin.ext he)
    have free := p.on_move_self ok i .free .tail
    change (p.move i .free .tail).free = p.free.erase i ++ [i] at free
    change j ∈ (p.move i .free .tail).free at hj
    rw [free] at hj
    have stood : j ∈ p.free := by
      obtain h | h := List.mem_append.mp hj
      · exact List.mem_of_mem_erase h
      · exact absurd (List.mem_singleton.mp h).symm e
    simpa [Vector.getElem_set_ne _ _ ne] using ok.2 j stood

theorem cueActionOf_ok {kind first level step lo hi fadeKind : Nat} {a : CueAction}
    (h : cueActionOf kind first level step lo hi fadeKind = some a) : a.ok := by
  unfold cueActionOf at h
  split at h
  any_goals
    obtain ⟨v, hv, rfl⟩ := Option.map_eq_some_iff.mp h
  case h_2 => exact loadOf_range (g := v.1) (p := v.2) hv
  case h_6 =>
    cases h
    trivial
  case h_7 => cases h
  all_goals trivial

/-- A content that passes the checks of R126 holds a load that passes them. -/
theorem cueContentOf_ok {vs : List Nat} {c : CueContent} (h : cueContentOf vs = some c) : c.action.ok := by
  unfold cueContentOf at h
  split at h
  · split at h
    · rename_i action
      cases h
      exact cueActionOf_ok action
    · cases h
  · cases h

/-- A record replaced by one whose load passes the checks. -/
theorem CuePool.setRecord_loads {p : CuePool} (i : Fin 64) {c : Cue} (hc : c.content.action.ok)
    (h : ∀ j : Fin 64, (p.records[j]).content.action.ok) (j : Fin 64) : ((p.setRecord i c).records[j]).content.action.ok :=
  Vector.getElem_set_cases (P := fun x : Cue => x.content.action.ok) h hc j

theorem Keeps.moveCue (s : State) (i : Fin 64) {l : CueList} (hl : l ≠ .free) (at' : Place) :
    Keeps s (s.moveCue i l at').state := by
  refine .setCues (fun ok => CuePool.move_ok ok i hl at') ?_
  rw [CuePool.records_move]
  exact id

/-! ## The answers -/

section
variable (params : List Byte) (s : State)

theorem Keeps.answerSetColour : Keeps s (answerSetColour params s).state := by
  unfold Machine.answerSetColour
  split
  · split
    · refine .setMixer (s.mixer.edit_recorded _ _ Sample.black .keep).1 fun _ => Mixer.editColour_ok _ ?_
      exact legalColour_legal ..
    · exact .refl s
  · exact .refl s

theorem Keeps.answerSetMatte : Keeps s (answerSetMatte params s).state := by
  unfold Machine.answerSetMatte
  split
  · exact .setMixer (s.mixer.edit_recorded 0 s.mixer.table[0] _ .keep).2.1 fun _ => Mixer.editMatte_ok (legalColour_legal ..)
  · exact .refl s

theorem Keeps.answerSetLossPolicy : Keeps s (answerSetLossPolicy params s).state := by
  unfold Machine.answerSetLossPolicy
  split
  · split
    · exact .refl s
    · exact .setMixer (s.mixer.edit_recorded 0 s.mixer.table[0] Sample.black _).2.2 fun _ => Mixer.editPolicy_ok _
  · exact .refl s

theorem Keeps.writeKeyer (v : Bool) : Keeps s (s.setMixer (s.mixer.writeKeyer v)) :=
  .setMixer rfl fun _ => Mixer.writeKeyer_ok v

theorem Keeps.answerKeyer : Keeps s (answerKeyer params s).state := by
  unfold Machine.answerKeyer
  split
  · split
    · exact .refl s
    · exact .writeKeyer s _
  · exact .refl s

theorem Keeps.answerQueryMixer : Keeps s (answerQueryMixer params s).state := by
  unfold Machine.answerQueryMixer
  split <;> exact .refl s

theorem Keeps.editWindow (n : BankName) (i : Fin 8) {w : Window} (hw : w.ok) : Keeps s (s.editWindow n i w).state := by
  unfold State.editWindow
  split
  · exact .refl s
  · exact .setBanks (Banks.edit_ok n i hw)

theorem Keeps.answerWindowSet : Keeps s (answerWindowSet params s).state := by
  unfold Machine.answerWindowSet
  split
  · split
    · rename_i hw
      exact .editWindow s _ _ (windowOf_ok hw)
    · exact .refl s
  · exact .refl s

theorem Keeps.answerWindowClear : Keeps s (answerWindowClear params s).state := by
  unfold Machine.answerWindowClear
  split
  · split
    · exact .editWindow s _ _ Window.cleared_ok
    · exact .refl s
  · exact .refl s

theorem Keeps.answerBankSwap : Keeps s (answerBankSwap params s).state := by
  unfold Machine.answerBankSwap
  split
  · split
    · exact .refl s
    · split
      · exact .refl s
      · rename_i h
        obtain ⟨-, rfl⟩ := Banks.writeSwap_some h
        exact .setBanks (Banks.setSwap_ok s.banks.live _)
  · exact .refl s

theorem Keeps.answerQueryBank : Keeps s (answerQueryBank params s).state := by
  unfold Machine.answerQueryBank
  split
  · split <;> exact .refl s
  · exact .refl s

theorem Keeps.putFade (g : Fin 4) {f : Fade} (hf : (s.fades[g]).ok → f.ok) : Keeps s (s.putFade g f).state :=
  .setFades fun ok => Vector.getElem_set_cases ok (hf (ok g))

theorem Keeps.answerFadeLoad : Keeps s (answerFadeLoad params s).state := by
  unfold Machine.answerFadeLoad
  split
  · split
    · exact .refl s
    · rename_i h
      exact .putFade s _ (Fade.load_ok (loadOf_range h))
  · exact .refl s

theorem Keeps.answerFadeHold : Keeps s (answerFadeHold params s).state := by
  unfold Machine.answerFadeHold
  split
  · exact .putFade s _ id
  · exact .refl s

theorem Keeps.answerFadeResume : Keeps s (answerFadeResume params s).state := by
  unfold Machine.answerFadeResume
  split
  · exact .putFade s _ id
  · exact .refl s

theorem Keeps.answerQueryFade : Keeps s (answerQueryFade params s).state := by
  unfold Machine.answerQueryFade
  split <;> exact .refl s

theorem Keeps.answerCueNew : Keeps s (answerCueNew params s).state := by
  unfold Machine.answerCueNew
  split
  · split
    · rename_i list content hlist hcontent
      split
      · exact .refl s
      · rename_i i rest hfree
        have notFree : list ≠ .free := by
          rintro rfl
          unfold newListOf at hlist
          split at hlist <;> cases hlist
        refine .setCues (fun ok => CuePool.setRecord_ok (CuePool.move_ok ok i notFree .tail) i fun _ => rfl) fun loads => ?_
        refine CuePool.setRecord_loads i (cueContentOf_ok hcontent) ?_
        rw [CuePool.records_move]
        exact loads
    · exact .refl s
  · exact .refl s

theorem Keeps.rewriteCue (i : Fin 64) {c : CueContent} (hc : c.action.ok) : Keeps s (s.setCues (s.cues.rewrite i c)) :=
  .setCues (fun ok => CuePool.setRecord_ok ok i (ok.2 i)) (CuePool.setRecord_loads i hc)

theorem Keeps.answerCueSet : Keeps s (answerCueSet params s).state := by
  unfold Machine.answerCueSet
  split
  · split
    · rename_i hcontent
      split
      · exact .refl s
      · exact .refl s
      · exact .rewriteCue s _ (cueContentOf_ok hcontent)
      · exact .rewriteCue s _ (cueContentOf_ok hcontent)
    · exact .refl s
  · exact .refl s

theorem Keeps.answerCueMove : Keeps s (answerCueMove params s).state := by
  unfold Machine.answerCueMove
  split
  · split
    · rename_i list at' hi hlist hat
      split
      · exact .refl s
      · refine .moveCue s _ ?_ _
        rintro rfl
        unfold moveListOf at hlist
        split at hlist
        · cases hlist
        · rename_i other
          exact other hlist
    · exact .refl s
  · exact .refl s

theorem Keeps.answerCuePlace : Keeps s (answerCuePlace params s).state := by
  unfold Machine.answerCuePlace
  split
  · split
    · split
      · exact .refl s
      · split
        · exact .refl s
        · rename_i placed
          exact .moveCue s _ (fun h => placed (Or.inr h)) _
    · exact .refl s
  · exact .refl s

/-- A pending flag cleared changes no content. -/
theorem CuePool.clearFired_loads {p : CuePool} (i : Fin 64) (h : ∀ j : Fin 64, (p.records[j]).content.action.ok) :
    ∀ j : Fin 64, ((p.clearFired i).records[j]).content.action.ok :=
  CuePool.setRecord_loads i (h i) h

theorem Keeps.answerCueDiscard : Keeps s (answerCueDiscard params s).state := by
  unfold Machine.answerCueDiscard
  split
  · exact .refl s
  · split
    · exact .refl s
    · refine .setCues (fun ok => CuePool.discard_ok ok _) fun loads => CuePool.clearFired_loads _ ?_
      rw [CuePool.records_move]
      exact loads

theorem Keeps.answerCueRead : Keeps s (answerCueRead params s).state := by
  unfold Machine.answerCueRead
  split <;> exact .refl s

theorem Keeps.answerCueList : Keeps s (answerCueList params s).state := by
  unfold Machine.answerCueList
  split
  · split <;> exact .refl s
  · exact .refl s

theorem Keeps.answerCueCollect : Keeps s (answerCueCollect params s).state := by
  unfold Machine.answerCueCollect
  split
  · split
    · exact .refl s
    · exact .setCues (fun ok => CuePool.clearFired_ok ok _) (CuePool.clearFired_loads _)
  · exact .refl s

theorem Keeps.answerSetStandard : Keeps s (answerSetStandard params s).state := by
  unfold Machine.answerSetStandard
  split
  · split
    · exact .refl s
    · dsimp only
      split
      · exact .refl s
      · exact .timingRestart true id id id
  · exact .refl s

theorem Keeps.answerSetRaster : Keeps s (answerSetRaster params s).state := by
  unfold Machine.answerSetRaster
  split
  · split
    · exact .refl s
    · dsimp only
      split
      · exact .refl s
      · have lpix := clampNat_bounds (show 320 ≤ 1400 by decide)
        exact .timingRestart false (fun _ => (lpix _).1) (fun _ => (lpix _).2)
          (fun _ => (clampNat_bounds (Nat.zero_le 15) _).2)
  · exact .refl s

theorem Engine.setProfile_loopKept (e : Engine) (p : Profile) : e.loopKept (e.setProfile p) := by
  unfold Engine.setProfile
  split
  · exact e.loopKept_refl
  · refine ⟨by cases p <;> rfl, by cases p <;> rfl, fun range => ?_⟩
    obtain ⟨k, i, offset, -, er, history⟩ := range
    cases p with
    | broadcast => exact ⟨k, i, Nat.zero_le _, fun _ => rfl, er, history⟩
    | tape => exact ⟨k, i, offset, nofun, er, history⟩

theorem Engine.setProfile_lock (e : Engine) (p : Profile) :
    (e.setProfile p).lock = e.lock ∧ (e.setProfile p).unlocked = e.unlocked := by
  unfold Engine.setProfile
  split
  · exact ⟨rfl, rfl⟩
  · cases p <;> exact ⟨rfl, rfl⟩

theorem Keeps.answerSetProfile : Keeps s (answerSetProfile params s).state := by
  unfold Machine.answerSetProfile
  split
  · split
    · exact .refl s
    · exact .setEngine (s.engine.setProfile_lock _).1 (s.engine.setProfile_lock _).2 (s.engine.setProfile_loopKept _)
  · exact .refl s

theorem Keeps.answerSetGains : Keeps s (answerSetGains params s).state := by
  unfold Machine.answerSetGains
  split
  · split
    · exact .setEngine rfl rfl (Engine.loopKept_of_eq rfl)
    · exact .refl s
  · exact .refl s

theorem Keeps.answerSetAdvance : Keeps s (answerSetAdvance params s).state := by
  unfold Machine.answerSetAdvance
  split
  · exact .setEngine rfl rfl (Engine.loopKept_of_eq rfl)
  · exact .refl s

theorem Keeps.answerSetLockWindows : Keeps s (answerSetLockWindows params s).state := by
  unfold Machine.answerSetLockWindows
  split
  · exact .setEngine rfl rfl (Engine.loopKept_of_eq rfl)
  · exact .refl s

theorem Keeps.answerSetQualify : Keeps s (answerSetQualify params s).state := by
  unfold Machine.answerSetQualify
  split
  · exact .setEngine rfl rfl (Engine.loopKept_of_eq rfl)
  · exact .refl s

theorem Keeps.answerSetInternal : Keeps s (answerSetInternal params s).state := by
  unfold Machine.answerSetInternal
  split
  · split
    · exact .refl s
    · exact (Keeps.enterInternal s).trans (.postAll _ _)
  · exact .refl s

theorem Keeps.answerReleaseInternal : Keeps s (answerReleaseInternal params s).state := by
  unfold Machine.answerReleaseInternal
  split
  · split
    · exact (Keeps.leaveInternal s).trans (.postAll _ _)
    · exact .refl s
  · exact .refl s

theorem Keeps.answerSetFieldCount : Keeps s (answerSetFieldCount params s).state := by
  unfold Machine.answerSetFieldCount
  split
  · exact .setTiming_jam_load s s.timing.jam _
  · exact .refl s

theorem Keeps.answerSetSyncWindows : Keeps s (answerSetSyncWindows params s).state := by
  unfold Machine.answerSetSyncWindows
  split
  · refine .setClassifier_same rfl fun range => ?_
    obtain ⟨synth, bad, wrong, lavg, -, line⟩ := range
    rename_i a b c d _
    have wn := clampNat_bounds (show 8 ≤ 128 by decide) a
    have ww := clampNat_bounds (show clampNat 8 128 a ≤ 768 by omega) b
    have nloss := clampNat_bounds (show 4 ≤ 63 by decide) c
    exact ⟨synth, bad, wrong, lavg, ⟨wn.1, wn.2, ww.1, ww.2, nloss.1, nloss.2, (clampNat_bounds (Nat.zero_le 31) d).2⟩, line⟩
  · exact .refl s

theorem Keeps.answerSetStoreDelay : Keeps s (answerSetStoreDelay params s).state := by
  unfold Machine.answerSetStoreDelay
  split
  · exact .setStore (Store.contentsKept_of_eq rfl rfl rfl rfl)
  · exact .refl s

theorem Keeps.answerSetVideoTrim : Keeps s (answerSetVideoTrim params s).state := by
  unfold Machine.answerSetVideoTrim
  split
  · exact .setStore (Store.contentsKept_of_eq rfl rfl rfl rfl)
  · exact .refl s

theorem Keeps.query (record : List Byte) : Keeps s (s.query params record).state := by
  unfold State.query
  split <;> exact .refl s

theorem Keeps.setQueue (q : Fin 4) {rs : List Report} (h : rs.length ≤ (s.reports.queues[q]).length) :
    Keeps s (s.setReports (s.reports.setQueue q rs)) :=
  .setReports fun bounded =>
    Vector.getElem_set_cases (P := fun l : List Report => l.length ≤ queueRoom) bounded (h.trans (bounded q))

theorem Keeps.answerReportPeek : Keeps s (answerReportPeek params s).state := by
  unfold Machine.answerReportPeek
  split
  · exact .refl s
  · split <;> exact .refl s

theorem Keeps.answerReportTake : Keeps s (answerReportTake params s).state := by
  unfold Machine.answerReportTake
  split
  · exact .refl s
  · split
    · exact .refl s
    · rename_i h
      exact .setQueue s _ (by rw [h]; exact Nat.le_succ _)

theorem Keeps.answerReportFlush : Keeps s (answerReportFlush params s).state := by
  unfold Machine.answerReportFlush
  split
  · exact .refl s
  · exact .setQueue s _ (Nat.zero_le _)

theorem Keeps.answerConditions : Keeps s (answerConditions params s).state := by
  unfold Machine.answerConditions
  split
  · exact .setReports id
  · exact .refl s

theorem Keeps.answerSetAttention : Keeps s (answerSetAttention params s).state := by
  unfold Machine.answerSetAttention
  split
  · exact .setReports id
  · exact .refl s

theorem Keeps.answerRestart : Keeps s (answerRestart params s).state := by
  unfold Machine.answerRestart
  split
  · exact .setLink s _
  · exact .refl s

end

/-! ## A request as a whole (R171, R172) -/

theorem Keeps.close (s : State) (kind : Byte) (body : List Byte) : Keeps s (s.close kind body) := .setLink s _

theorem Keeps.discardBytes (s : State) (n : Nat) : Keeps s (s.discardBytes n) := by
  unfold State.discardBytes
  dsimp only
  split
  · exact (Keeps.setLink s _).trans (.latch _ _)
  · exact .setLink s _

theorem Keeps.request {s t : State} {kind : Byte} {params : List Byte} {handler : State → Answer}
    (handled : Keeps s (handler s).state) (h : s.request kind params handler = .next t) : Keeps s t := by
  obtain e | e | e := s.request_next kind params handler <;> rw [e] at h <;> cases h
  · exact handled.trans ((Keeps.close _ _ _).trans (.settle _))
  · exact (Keeps.discardBytes s _).trans (.settle _)
  · exact .refl s

end Sys2Proof.Machine

/-! What the clock keeps: the walk with the generators' steps, the pixel, the field start, the line start and the jam check
(spec/03, spec/06, spec/08). -/

namespace Sys2Proof.Machine

/-! ## The generators (R112 to R115) -/

/-- Level, step and bounds of a generator, whatever its walk mark. -/
def Fade.inRange (f : Fade) : Prop := fadeRange f.kind f.level f.step f.lo f.hi

theorem Fade.ok_iff (f : Fade) : f.ok ↔ f.inRange ∧ f.mark = false := Iff.rfl

theorem Fade.stepStop_inRange {f : Fade} (range : f.inRange) : f.stepStop.1.inRange := by
  obtain ⟨⟨low, high, top⟩, step, wrap, bounce⟩ := range
  have level := clampInt_bounds (show (f.lo : Int) ≤ f.hi by omega) (f.level + f.step)
  exact ⟨⟨by simp only [Fade.stepStop]; omega, by simp only [Fade.stepStop]; omega, top⟩, step, wrap, bounce⟩

theorem Fade.stepWrap_inRange {f : Fade} (range : f.inRange) : f.stepWrap.inRange := by
  obtain ⟨⟨low, high, top⟩, step, wrap, bounce⟩ := range
  have span : (0 : Int) < (f.hi : Int) - f.lo + 1 := by omega
  have nonneg := Int.emod_nonneg ((f.level : Int) - f.lo + f.step) (Int.ne_of_gt span)
  have below := Int.emod_lt_of_pos ((f.level : Int) - f.lo + f.step) span
  exact ⟨⟨by simp only [Fade.stepWrap]; omega, by simp only [Fade.stepWrap]; omega, top⟩, step, wrap, bounce⟩

theorem Fade.stepBounce_inRange {f : Fade} (kind : f.kind = .bounce) (range : f.inRange) : f.stepBounce.inRange := by
  obtain ⟨⟨low, high, top⟩, ⟨stepLow, stepHigh⟩, wrap, bounce⟩ := range
  obtain ⟨short, least⟩ := bounce kind
  have turned : (f.kind = .wrap → (-f.step).natAbs < f.hi - f.lo + 1) ∧
      (f.kind = .bounce → (-f.step).natAbs ≤ f.hi - f.lo ∧ -f.step ≠ -32768) :=
    ⟨fun _ => by omega, fun _ => by omega⟩
  unfold Fade.stepBounce
  dsimp only
  split
  · exact ⟨⟨by dsimp only; omega, by dsimp only; omega, top⟩, ⟨by dsimp only; omega, by dsimp only; omega⟩, turned⟩
  · split
    · exact ⟨⟨by dsimp only; omega, by dsimp only; omega, top⟩, ⟨by dsimp only; omega, by dsimp only; omega⟩, turned⟩
    · exact ⟨⟨by dsimp only; omega, by dsimp only; omega, top⟩, ⟨stepLow, stepHigh⟩, wrap, bounce⟩

/-- A step moves level and perhaps direction and run; the walk mark stays. -/
theorem Fade.stepOnce_mark (f : Fade) : f.stepOnce.1.mark = f.mark := by
  unfold Fade.stepOnce
  split
  · rfl
  · rfl
  · unfold Fade.stepBounce
    dsimp only
    split
    · rfl
    · split <;> rfl

theorem Fade.stepOnce_inRange {f : Fade} (range : f.inRange) : f.stepOnce.1.inRange := by
  unfold Fade.stepOnce
  split
  · exact Fade.stepStop_inRange range
  · exact Fade.stepWrap_inRange range
  · rename_i kind
    exact Fade.stepBounce_inRange kind range

/-- The end of a walk leaves every generator within its bounds and unmarked. -/
theorem Fade.endWalk_ok {f : Fade} (range : f.inRange) : f.endWalk.1.ok := by
  unfold Fade.endWalk
  split
  · exact ⟨range, rfl⟩
  · rename_i unmarked
    have clear : f.mark = false := by simpa using unmarked
    split
    · exact ⟨Fade.stepOnce_inRange range, f.stepOnce_mark.trans clear⟩
    · exact ⟨range, clear⟩

/-! ## The walk (R138 to R148) -/

/-- What a firing keeps in the units it reaches: the lists' partition, given that no cue of FREE fires, every content, the
generators' ranges, and the keyer's rule. -/
structure WalkKeeps (s t : State) : Prop where
  content : ∀ i : Fin 64, (t.cues.records[i]).content = (s.cues.records[i]).content
  ranges : (∀ i : Fin 64, (s.cues.records[i]).content.action.ok) → (∀ g : Fin 4, (s.fades[g]).inRange) →
    ∀ g : Fin 4, (t.fades[g]).inRange
  mixer : s.mixer.ok → t.mixer.ok

theorem WalkKeeps.refl (s : State) : WalkKeeps s s := ⟨fun _ => rfl, fun _ => id, id⟩

theorem WalkKeeps.trans {s t u : State} (a : WalkKeeps s t) (b : WalkKeeps t u) : WalkKeeps s u :=
  ⟨fun i => (b.content i).trans (a.content i),
    fun loads range => b.ranges (fun i => by rw [a.content i]; exact loads i) (a.ranges loads range), b.mixer ∘ a.mixer⟩

/-- Only a FADE action brings new bounds, and it brings those of a content. -/
theorem WalkKeeps.act {s : State} (i : Fin 64) {a : CueAction}
    (ha : (∀ i : Fin 64, (s.cues.records[i]).content.action.ok) → a.ok) : WalkKeeps s (s.act i a).1 := by
  cases a with
  | swap copy =>
    change WalkKeeps s (s.actSwap i copy).1
    unfold State.actSwap
    split <;> exact ⟨fun _ => rfl, fun _ => id, id⟩
  | fade g p =>
    refine ⟨fun _ => rfl, fun loads range => ?_, id⟩
    exact Vector.getElem_set_cases (P := Fade.inRange) range (ha loads)
  | fadeHold g =>
    refine ⟨fun _ => rfl, fun _ range => ?_, id⟩
    exact Vector.getElem_set_cases (P := Fade.inRange) range (range g)
  | keyer v => exact ⟨fun _ => rfl, fun _ => id, Mixer.writeKeyer_ok v⟩
  | arm j =>
    change WalkKeeps s (s.actArm i j).1
    unfold State.actArm
    split
    · refine ⟨fun k => ?_, fun _ => id, id⟩
      change ((s.cues.move j .armed .tail).records[k]).content = _
      rw [CuePool.records_move]
    · exact .refl s
  | mark => exact .refl s

theorem CuePool.setFired_content (p : CuePool) (i j : Fin 64) :
    ((p.setFired i).records[j]).content = (p.records[j]).content := by
  change ((p.records.set i _)[j]).content = _
  by_cases e : i = j
  · subst e
    simp
  · have ne : (i : Nat) ≠ j := fun he => e (Fin.ext he)
    simp [Vector.getElem_set_ne _ _ ne]

theorem CuePool.dispose_records (p : CuePool) (i : Fin 64) (repeats : Bool) : (p.dispose i repeats).records = p.records := by
  unfold CuePool.dispose
  split
  · rfl
  · exact CuePool.records_move ..

theorem WalkKeeps.fire (s : State) (i : Fin 64) : WalkKeeps s (s.fire i).1 := by
  have acted : WalkKeeps s (s.act i (s.cues.records[i]).content.action).1 := .act i fun loads => loads i
  refine acted.trans ⟨fun j => ?_, fun _ => id, id⟩
  change (((_ : CuePool).dispose i _).records[j]).content = _
  rw [CuePool.dispose_records, CuePool.setFired_content]

theorem WalkKeeps.visit (f : Count) (a : State × List Post) (i : Fin 64) : WalkKeeps a.1 (State.visit f a i).1 := by
  unfold State.visit
  split
  · exact .fire a.1 i
  · exact .refl a.1

theorem WalkKeeps.foldl_visit (f : Count) (ids : List (Fin 64)) (a : State × List Post) :
    WalkKeeps a.1 (ids.foldl (State.visit f) a).1 := by
  induction ids generalizing a with
  | nil => exact .refl a.1
  | cons i ids ih => exact (WalkKeeps.visit f a i).trans (ih _)

theorem WalkKeeps.walk (s : State) (f : Count) : WalkKeeps s (s.walk f).1 := .foldl_visit f _ (s, [])

/-! ### The lists under a walk: nothing leaves or joins FREE -/

theorem CuePool.move_free {p : CuePool} (ok : p.ok) {i : Fin 64} (hi : i ∉ p.free) {l : CueList} (hl : l ≠ .free) (at' : Place) :
    (p.move i l at').free = p.free :=
  (p.on_move_ne ok i (Ne.symm hl) at').trans (List.erase_of_not_mem hi)

/-- The pool kept with its FREE list. -/
def CuePool.walked (p p' : CuePool) : Prop := p'.ok ∧ p'.free = p.free

theorem CuePool.walked_move {p : CuePool} (ok : p.ok) {i : Fin 64} (hi : i ∉ p.free) {l : CueList} (hl : l ≠ .free) (at' : Place) :
    p.walked (p.move i l at') :=
  ⟨CuePool.move_ok ok i hl at', CuePool.move_free ok hi hl at'⟩

theorem State.act_walked {s : State} (ok : s.cues.ok) (i : Fin 64) (a : CueAction) : s.cues.walked (s.act i a).1.cues := by
  cases a with
  | swap copy =>
    change s.cues.walked (s.actSwap i copy).1.cues
    unfold State.actSwap
    split <;> exact ⟨ok, rfl⟩
  | arm j =>
    change s.cues.walked (s.actArm i j).1.cues
    unfold State.actArm
    split
    · rename_i held
      refine CuePool.walked_move ok (fun free => ?_) (l := .armed) nofun .tail
      rw [(s.cues.listOf_iff ok j .free).mpr free] at held
      cases held
    · exact ⟨ok, rfl⟩
  | fade | fadeHold | keyer | mark => exact ⟨ok, rfl⟩

theorem State.fire_walked {s : State} (ok : s.cues.ok) {i : Fin 64} (hi : i ∉ s.cues.free) :
    s.cues.walked (s.fire i).1.cues := by
  obtain ⟨acted, free⟩ := State.act_walked ok i (s.cues.records[i]).content.action
  change s.cues.walked (((s.act i (s.cues.records[i]).content.action).1.cues.setFired i).dispose i _)
  generalize (s.act i (s.cues.records[i]).content.action).1.cues = p at acted free
  have fired : (p.setFired i).ok := CuePool.setRecord_ok acted i fun h => absurd (free ▸ h) hi
  have stood : (p.setFired i).free = s.cues.free := free
  unfold CuePool.dispose
  split
  · exact ⟨fired, stood⟩
  · obtain ⟨moved, freeMoved⟩ := CuePool.walked_move fired (i := i) (by rw [stood]; exact hi) (l := .done) nofun .tail
    exact ⟨moved, freeMoved.trans stood⟩

theorem State.foldl_visit_walked (f : Count) (ids : List (Fin 64)) (a : State × List Post) (ok : a.1.cues.ok)
    (off : ∀ i ∈ ids, i ∉ a.1.cues.free) : a.1.cues.walked (ids.foldl (State.visit f) a).1.cues := by
  induction ids generalizing a with
  | nil => exact ⟨ok, rfl⟩
  | cons i ids ih =>
    have visited : a.1.cues.walked (State.visit f a i).1.cues := by
      unfold State.visit
      split
      · exact State.fire_walked ok (off i List.mem_cons_self)
      · exact ⟨ok, rfl⟩
    obtain ⟨ok', free⟩ := visited
    obtain ⟨ok'', free'⟩ := ih (State.visit f a i) ok' fun j hj => by
      rw [free]
      exact off j (List.mem_cons_of_mem i hj)
    exact ⟨ok'', free'.trans free⟩

/-- A cue on ARMED is not on FREE. -/
theorem CuePool.not_free_of_armed {p : CuePool} (ok : p.ok) {i : Fin 64} (hi : i ∈ p.armed) : i ∉ p.free := fun hf => by
  have armed := (p.listOf_iff ok i .armed).mpr hi
  rw [(p.listOf_iff ok i .free).mpr hf] at armed
  cases armed

theorem State.walk_walked {s : State} (ok : s.cues.ok) (f : Count) : s.cues.walked (s.walk f).1.cues :=
  State.foldl_visit_walked f _ (s, []) ok fun _ => CuePool.not_free_of_armed ok

/-- The walk together with the steps at its end (R112, R138). -/
theorem Keeps.walk_endWalk (s : State) (f : Count) :
    Keeps s ((s.walk f).1.setFades ((s.walk f).1.fades.map fun x => x.endWalk.1)) := by
  obtain ⟨⟨-, -, classifier, engine, timing, store, reports, -, -, pending⟩, banks, mixer⟩ := s.walk_frame f
  have kept := WalkKeeps.walk s f
  have walked := fun ok => State.walk_walked (s := s) ok f
  generalize (s.walk f).1 = w at classifier engine timing store reports pending banks mixer kept walked
  refine ⟨⟨pending, ?_, ?_, ?_, ?_, ?_, ?_, fun ok => ?_, fun ok => ?_, fun ok => ?_, fun ok => (walked ok).1⟩, ?_⟩
  · rw [State.setFades_reports, reports]
    exact id
  · simp only [State.lockOk, State.setFades_engine, State.setFades_store, State.setFades_mixer, engine, store]
    rw [mixer]
    exact id
  · simp only [State.trackingOk, State.setFades_engine, State.setFades_classifier, engine, classifier, imp_self]
  · simp only [State.classifierOk, State.setFades_timing, State.setFades_classifier, timing, classifier, imp_self]
  · rw [State.setFades_store, store]
    exact id
  · simp only [State.loopOk, State.setFades_timing, State.setFades_engine, timing, engine, imp_self]
  · refine ⟨?_, kept.mixer ok.2⟩
    rw [State.setFades_timing, timing]
    exact ok.1
  · rw [State.setFades_banks, banks]
    exact Banks.setSwap_ok s.banks.live _ ok
  · obtain ⟨fades, loads⟩ := ok
    refine ⟨fun g => ?_, fun i => ?_⟩
    · rw [State.setFades_fades, Fin.getElem_fin, Vector.getElem_map]
      exact Fade.endWalk_ok (kept.ranges loads (fun g => (fades g).1) g)
    · rw [State.setFades_cues, kept.content i]
      exact loads i
  · simp only [State.positionOk, State.setFades_timing, timing, imp_self]

/-! ## The request within a field start (R99, R108, R119; log 14) -/

theorem Keeps.betweenAnswer {kind : Byte} {params : List Byte} {handler : State → Answer}
    (h : betweenAnswer kind params = some handler) (s : State) : Keeps s (handler s).state := by
  unfold Machine.betweenAnswer at h
  split_ifs at h <;> cases h
  · exact .answerKeyer params s
  · exact .answerWindowSet params s
  · exact .answerWindowClear params s
  · exact .answerBankSwap params s
  · exact .answerQueryBank params s
  · exact .answerQueryMixer params s
  · exact .answerFadeLoad params s
  · exact .answerFadeHold params s
  · exact .answerFadeResume params s
  · exact .answerQueryFade params s

/-- The frame of a request taken: executed and answered, or discarded byte by byte. -/
theorem State.takeFrame_some {s t : State} {kind : Byte} {params : List Byte} {handler : State → Answer}
    (h : s.takeFrame kind params handler = some t) :
    t = (handler s).state.close kind ((handler s).body kind) ∨ t = s.discardBytes (params.length + 4) := by
  unfold State.takeFrame at h
  split_ifs at h <;> cases h
  · exact Or.inl rfl
  · exact Or.inr rfl

theorem Keeps.takeBetween (s : State) (between : List Byte) : Keeps s (s.takeBetween between) := by
  unfold State.takeBetween
  split
  · exact .refl s
  · split
    · rename_i hb
      cases ht : s.takeFrame _ _ _ with
      | none => exact .refl s
      | some t =>
        obtain e | e := State.takeFrame_some ht
        · exact e ▸ (Keeps.betweenAnswer hb s).trans (.close _ _ _)
        · exact e ▸ .discardBytes s _
    · exact .refl s

/-! ## A generated field start (R44, R99, R107) -/

theorem Banks.setWindows_ok {b : Banks} (ok : b.ok) (n : BankName) {ws : Vector Window 8} (hw : ∀ i : Fin 8, (ws[i]).ok) :
    (b.setWindows n ws).ok := by
  intro m i
  rw [Banks.windows_setWindows]
  split
  · exact hw i
  · exact ok m i

theorem Banks.perform_ok {b : Banks} (ok : b.ok) : b.perform.1.ok := by
  unfold Banks.perform
  split
  · exact ok
  · dsimp only
    split
    · have swapped := Banks.setSwap_ok b.live.other none ok
      exact Banks.setWindows_ok swapped b.live (swapped b.live.other)
    · exact Banks.setSwap_ok b.live.other none ok

theorem Mixer.applyKeyer_ok {m : Mixer} (ok : m.ok) : m.applyKeyer.1.ok := by
  unfold Mixer.applyKeyer
  split
  · exact ok
  · obtain ⟨table, matte, ctx, prevCtx, output, pipeline, -⟩ := ok
    exact ⟨table, matte, ctx, prevCtx, output, pipeline, nofun⟩

theorem Mixer.applyKeyer_recorded (m : Mixer) : m.applyKeyer.1.recorded = m.recorded := by
  unfold Mixer.applyKeyer
  split <;> rfl

theorem Keeps.takeField (s : State) (check : List Post) (between : List Byte) : Keeps s (s.takeField check between) := by
  have begun : Keeps s ((s.setBanks s.banks.perform.1).setMixer s.mixer.applyKeyer.1) :=
    (Keeps.setBanks Banks.perform_ok).trans (Keeps.setMixer s.mixer.applyKeyer_recorded fun _ => Mixer.applyKeyer_ok)
  exact begun.trans ((Keeps.takeGeneratedField _).trans ((Keeps.takeBetween _ between).trans
    ((Keeps.walk_endWalk _ _).trans (Keeps.postWork _ _ _))))

/-- The field start in the timing generator: the line in progress may have the other parity until the line start. -/
theorem Keeps.startField (s : State) (p : Parity) (cause : Cause) : Keeps s (s.setTiming (s.timing.startField p cause)) := by
  refine .setTiming rfl fun ok => ⟨ok.1, ?_⟩
  obtain restart | ⟨pixel, low, high, -⟩ := ok.2
  · exact Or.inl restart
  · exact Or.inr ⟨pixel, low, high, nofun⟩

/-- The state on which the field start's work begins: the reports of a check posted, or left for the work. -/
def State.checkPosted (s : State) (check : List Post) : State :=
  let s0 := if check.isEmpty || Config.checkResultFirst s.draw then s.postAll check else s
  if check.isEmpty then s0 else s0.setDraw (s.draw + 1)

theorem State.fieldStart_eq (s : State) (p : Parity) (cause : Cause) (check : List Post) (between : List Byte) :
    s.fieldStart p cause check between =
      ((s.checkPosted check).setTiming ((s.checkPosted check).timing.startField p cause)).takeField
        (if check.isEmpty || Config.checkResultFirst s.draw then [] else check) between := rfl

theorem Keeps.checkPosted (s : State) (check : List Post) : Keeps s (s.checkPosted check) := by
  have posted : Keeps s (if check.isEmpty || Config.checkResultFirst s.draw then s.postAll check else s) := by
    split
    · exact .postAll s check
    · exact .refl s
  unfold State.checkPosted
  dsimp only
  split
  · exact posted
  · exact posted.trans (.setDraw _ _)

theorem Keeps.fieldStart (s : State) (p : Parity) (cause : Cause) (check : List Post) (between : List Byte) :
    Keeps s (s.fieldStart p cause check between) := by
  rw [State.fieldStart_eq]
  exact (Keeps.checkPosted s check).trans ((Keeps.startField _ p cause).trans (.takeField _ _ between))

/-! ### The timing after a field start: the jam countdown and what the field start sets -/

theorem State.takeBetween_timing (s : State) (between : List Byte) : (s.takeBetween between).timing = s.timing := by
  obtain ⟨k, b, f, l, n, e⟩ := s.takeBetween_frame between
  rw [e]
  rfl

theorem State.takeBetween_engine (s : State) (between : List Byte) : (s.takeBetween between).engine = s.engine := by
  obtain ⟨k, b, f, l, n, e⟩ := s.takeBetween_frame between
  rw [e]
  rfl

/-- The swap and the keyer state pending at a field start applied, as the units perform them. -/
def State.performed (s : State) : State := (s.setBanks s.banks.perform.1).setMixer s.mixer.applyKeyer.1

/-- The state after the walk of a field start and the steps at its end. -/
def State.fieldWalked (s : State) (between : List Byte) : State :=
  let w := (s.performed.takeGeneratedField.1.takeBetween between).walk s.timing.count
  w.1.setFades (w.1.fades.map fun f => f.endWalk.1)

/-- The pieces of work of a field start on a state. -/
def State.fieldWorks (s : State) (check : List Post) (between : List Byte) : List (Work × List Post) :=
  let e := s.performed.takeGeneratedField
  let w := (e.1.takeBetween between).walk s.timing.count
  fieldWork check s.banks.perform.2 s.mixer.applyKeyer.2 e.2 w.2 w.1.fades

theorem State.takeField_eq (s : State) (check : List Post) (between : List Byte) : s.takeField check between =
    (s.fieldWalked between).postWork (s.orderedBy between) (s.fieldWorks check between) := rfl

theorem State.takeField_timing (s : State) (check : List Post) (between : List Byte) : (s.takeField check between).timing =
    { s.timing with jam := (s.takeField check between).timing.jam } := by
  have generated := s.performed.takeGeneratedField_count
  have e : (s.takeField check between).timing = s.performed.takeGeneratedField.1.timing := by
    rw [State.takeField_eq, State.postWork_timing]
    change ((s.performed.takeGeneratedField.1.takeBetween between).walk s.timing.count).1.timing = _
    rw [State.walk_timing, State.takeBetween_timing]
  rw [e, generated]
  rfl

theorem State.checkPosted_timing (s : State) (check : List Post) : (s.checkPosted check).timing = s.timing := by
  unfold State.checkPosted
  dsimp only
  split
  · split <;> simp
  · split <;> simp

theorem State.fieldStart_timing (s : State) (p : Parity) (cause : Cause) (check : List Post) (between : List Byte) :
    (s.fieldStart p cause check between).timing =
      { s.timing.startField p cause with jam := (s.fieldStart p cause check between).timing.jam } := by
  rw [State.fieldStart_eq, State.takeField_timing, State.setTiming_timing, State.checkPosted_timing]

/-! ## A generated line start (R42, R72, R85) -/

theorem fieldLength_pos (std : Standard) (p : Parity) : 1 ≤ fieldLength std p := by
  cases std <;> cases p <;> decide

/-- The next line is one of its field's: the first of one, or short of the length of the one that runs. -/
theorem Keeps.startLine {s : State}
    (room : s.timing.newField = true ∨ s.timing.key.line < fieldLength s.timing.standard s.timing.key.parity) :
    Keeps s (s.setTiming s.timing.startLine) := by
  refine .setTiming rfl fun ok => ⟨ok.1, ?_⟩
  obtain restart | ⟨pixel, low, -, parity⟩ := ok.2
  · exact Or.inl restart
  · refine Or.inr ⟨pixel, ?_⟩
    change 1 ≤ (if s.timing.newField then ⟨s.timing.parity, 1⟩ else ⟨s.timing.parity, s.timing.key.line + 1⟩ : Key).line ∧
      (if s.timing.newField then ⟨s.timing.parity, 1⟩ else ⟨s.timing.parity, s.timing.key.line + 1⟩ : Key).line ≤
        fieldLength s.timing.standard
          (if s.timing.newField then ⟨s.timing.parity, 1⟩ else ⟨s.timing.parity, s.timing.key.line + 1⟩ : Key).parity ∧
      (false = false → (if s.timing.newField then ⟨s.timing.parity, 1⟩ else ⟨s.timing.parity, s.timing.key.line + 1⟩ : Key).parity =
        s.timing.parity)
    split
    · exact ⟨Nat.le_refl 1, fieldLength_pos _ _, fun _ => rfl⟩
    · rename_i running
      obtain new | short := room
      · exact absurd new running
      · rw [parity (by simpa using running)] at short
        exact ⟨Nat.le_add_left 1 _, short, fun _ => rfl⟩

theorem Mixer.loadContext_ok {m : Mixer} (ok : m.ok) : m.loadContext.ok := by
  obtain ⟨table, matte, ctx, prevCtx, output, pipeline, keyer⟩ := ok
  refine ⟨table, matte, ⟨table, matte⟩, ctx, output, ?_, keyer⟩
  rw [Mixer.loadContext, List.length_map]
  exact pipeline

theorem Keeps.loadContext (s : State) : Keeps s (s.setMixer s.mixer.loadContext) :=
  .setMixer rfl fun _ => Mixer.loadContext_ok

theorem Keeps.record (s : State) (stamp : Stamp) : Keeps s (s.setEngine (s.engine.record stamp)) :=
  .setEngine rfl rfl (s.engine.record_loopKept stamp)

theorem Keeps.lineStart {s : State} (stamp : Stamp)
    (room : s.timing.newField = true ∨ s.timing.key.line < fieldLength s.timing.standard s.timing.key.parity) :
    Keeps s (s.lineStart stamp) :=
  (Keeps.startLine room).trans ((Keeps.storeRead _ _).trans ((Keeps.loadContext _).trans (.record _ stamp)))

theorem State.storeRead_timing (s : State) (k : Key) :
    (s.storeRead k).timing = { s.timing with jam := (s.storeRead k).timing.jam } := by
  have lookUp : ∀ u : State, (u.storeLookUp k).1.timing = u.timing := fun u => by
    obtain ⟨i, -, e | ⟨p, e⟩⟩ | e | ⟨p, e⟩ := u.storeLookUp_cases k <;> rw [e] <;> rfl
  have lineOne : ∀ (u : State) (r : LineOne),
      (u.takeLineOne r).1.timing = { u.timing with jam := (u.takeLineOne r).1.timing.jam } := fun u r => by
    unfold State.takeLineOne State.dropLock
    split
    · split
      · rfl
      · dsimp only
        split
        · obtain ⟨jam, timing⟩ := u.changeLock_timing_jam .acquire false
            { u.engine with missRun := 0, dropRun := 0, lockRun := 0, vmatch := false }
          rw [timing]
        · rfl
    · rfl
  unfold State.storeRead
  dsimp only
  split
  · split
    · rw [State.postAll_timing, lineOne, State.setStore_timing, lookUp]
      rfl
    · rw [lookUp]
      rfl
  · rfl

theorem State.lineStart_timing (s : State) (stamp : Stamp) : (s.lineStart stamp).timing =
    { s.timing.startLine with jam := (s.lineStart stamp).timing.jam } := by
  change ((s.setTiming s.timing.startLine).storeRead s.timing.startLine.key).timing = _
  rw [State.storeRead_timing]
  rfl

/-! ## The events of the clock -/

theorem Keeps.beginLine (s : State) : Keeps s (s.setTiming s.timing.beginLine) := .setTiming rfl id

/-- A natural field start falls at the line start of every last line that no field start has ended. -/
theorem Keeps.naturalField (s : State) (between : List Byte) : Keeps s (s.naturalField between) := by
  unfold State.naturalField
  split
  · exact .fieldStart s _ .natural [] between
  · exact .refl s

theorem Timing.naturalStart_none {t : Timing} (h : t.naturalStart = none) :
    t.newField = true ∨ t.key.line ≠ fieldLength t.standard t.key.parity := by
  unfold Timing.naturalStart at h
  split at h
  · cases h
  · rename_i hn
    cases hf : t.newField
    · right
      simpa [hf, Timing.lastLine] using hn
    · exact Or.inl rfl

/-- The line start of a wrap: every state it comes on is outside a restart or has its line within the field. -/
theorem State.positionOk_line {s : State} (ok : s.positionOk) (running : s.timing.restartPending = false) :
    s.timing.key.line ≤ fieldLength s.timing.standard s.timing.key.parity := by
  obtain restart | ⟨-, -, high, -⟩ := ok.2
  · rw [running] at restart
    cases restart
  · exact high

theorem Keeps.units_lineStart (s : State) (stamp : Stamp) : KeepsUnits s (s.lineStart stamp) :=
  (KeepsUnits.setTiming (s := s) (t := s.timing.startLine) rfl).trans ((Keeps.storeRead _ _).toKeepsUnits.trans
    ((Keeps.loadContext _).trans (Keeps.record _ stamp)).toKeepsUnits)

theorem Keeps.wrapEvent {s : State} (stamp : Stamp) (between : List Byte) (running : s.timing.restartPending = false) :
    Keeps s (State.wrapEvent stamp between s) := by
  have begun := (Keeps.beginLine s).trans (Keeps.naturalField (s.setTiming s.timing.beginLine) between)
  refine ⟨begun.toKeepsUnits.trans (Keeps.units_lineStart _ stamp), fun ok => ?_⟩
  refine (Keeps.lineStart stamp ?_).position (begun.position ok)
  unfold State.naturalField
  split
  · left
    rw [State.fieldStart_timing]
    rfl
  · rename_i none
    obtain new | other := Timing.naturalStart_none none
    · exact Or.inl new
    · exact Or.inr (Nat.lt_of_le_of_ne (State.positionOk_line ok running) other)

theorem Keeps.completeCheck (s : State) (p : Parity) (due : Key) (between : List Byte) :
    Keeps s (s.completeCheck p due between) := by
  have cleared : Keeps s (s.setTiming { s.timing with jam := none }) := .setTiming_jam_load s none s.timing.load
  have matched : ∀ (u : State) (v : Bool), Keeps u (u.setMatch v) := fun u v => .setEngine rfl rfl (Engine.loopKept_of_eq rfl)
  unfold State.completeCheck
  dsimp only
  split
  · exact cleared.trans ((matched _ true).trans ((Keeps.testLocked _).trans (.fieldStart _ _ _ _ between)))
  · exact cleared.trans ((matched _ false).trans (.fieldStart _ _ _ _ between))

theorem State.completeCheck_newField (s : State) (p : Parity) (due : Key) (between : List Byte) :
    (s.completeCheck p due between).timing.newField = true := by
  unfold State.completeCheck
  dsimp only
  split <;> rw [State.fieldStart_timing] <;> rfl

theorem Keeps.jamEvent (s : State) (p : Parity) (midLine : Bool) (due : Key) (stamp : Stamp) (between : List Byte) :
    Keeps s (State.jamEvent p midLine due stamp between s) := by
  unfold State.jamEvent
  split
  · exact .completeCheck s p due between
  · exact (Keeps.beginLine s).trans ((Keeps.completeCheck _ p due between).trans
      (.lineStart stamp (Or.inl (State.completeCheck_newField _ p due between))))

theorem Mixer.discard_ok {m : Mixer} (ok : m.ok) : m.discard.ok := by
  obtain ⟨table, matte, ctx, prevCtx, output, -, keyer⟩ := ok
  exact ⟨table, matte, ctx, prevCtx, output, Nat.zero_le _, keyer⟩

theorem Keeps.discardPixels (s : State) : Keeps s (s.setMixer s.mixer.discard) := .setMixer rfl fun _ => Mixer.discard_ok

/-- The restart carry puts the generator at the first pixel of line (1, 1), wherever it stood. -/
theorem Keeps.restartEvent (s : State) (stamp : Stamp) (between : List Byte) : Keeps s (State.restartEvent stamp between s) := by
  have units : KeepsUnits s (State.restartEvent stamp between s) :=
    (Keeps.discardPixels s).toKeepsUnits.trans
      ((KeepsUnits.setTiming (s := s.setMixer s.mixer.discard)
        (t := { s.timing.beginLine with pixel := 0, restartPending := false }) rfl).trans
        ((Keeps.fieldStart _ .one .restart [] between).toKeepsUnits.trans (Keeps.units_lineStart _ stamp)))
  refine ⟨units, fun ok => ?_⟩
  have timing : (State.restartEvent stamp between s).timing =
      { ({ s.timing.beginLine with pixel := 0, restartPending := false }.startField .one .restart).startLine with
        jam := (State.restartEvent stamp between s).timing.jam } := by
    unfold State.restartEvent
    dsimp only
    rw [State.lineStart_timing, State.fieldStart_timing]
    rfl
  have lpix : 320 ≤ s.timing.lpix := ok.1
  unfold State.positionOk
  rw [timing]
  refine ⟨lpix, Or.inr ⟨?_, Nat.le_refl 1, fieldLength_pos s.timing.standard .one, fun _ => rfl⟩⟩
  exact Nat.lt_of_lt_of_le (by decide : 0 < 320) lpix

/-! ## The pixel of a carry (R71, R75, R89 to R97) -/

theorem Keeps.accumulate (s : State) : Keeps s s.accumulate := .setTiming rfl id

/-- A pixel clock keeps the pixel counter below Lpix. -/
theorem Keeps.advancePixel (s : State) : Keeps s (s.setTiming s.timing.advancePixel) := by
  refine .setTiming rfl fun ok => ⟨ok.1, ?_⟩
  have lpix : 320 ≤ s.timing.lpix := ok.1
  obtain restart | ⟨-, others⟩ := ok.2
  · exact Or.inl restart
  · refine Or.inr ⟨?_, others⟩
    change (if s.timing.wraps then 0 else s.timing.pixel + 1) < s.timing.lpix
    unfold Timing.wraps
    split
    · omega
    · rename_i h
      simpa using h

theorem Keeps.sampleAndRead (s : State) (ref : Sample) : Keeps s (s.sampleAndRead ref).1 := by
  rw [State.sampleAndRead_eq]
  exact (Keeps.setStore (s.store.sampleTick_contentsKept s.stamp ref)).trans (.setDraw _ _)

theorem limitSample_legal (raw : Int × Int × Int) : legal (limitSample raw).1 := by
  have y := clampInt_bounds (show (16 : Int) ≤ 235 by decide) raw.1
  have cb := clampInt_bounds (show (16 : Int) ≤ 240 by decide) raw.2.1
  have cr := clampInt_bounds (show (16 : Int) ≤ 240 by decide) raw.2.2
  unfold legal limitSample
  simp only [BitVec.toNat_ofInt]
  omega

theorem black_legal : legal Sample.black := by
  unfold legal Sample.black
  decide

theorem Mixer.delaySyncs_eq (m : Mixer) (latency : Nat) (lineSync fieldSync : Bool) : ∃ d l f,
    m.delaySyncs latency lineSync fieldSync =
      { m with syncDelay := d, output := { m.output with lineSync := l, fieldSync := f } } := by
  unfold Mixer.delaySyncs
  dsimp only
  split
  · split
    · exact ⟨_, _, _, rfl⟩
    · exact ⟨_, m.output.lineSync, m.output.fieldSync, rfl⟩
  · exact ⟨_, m.output.lineSync, m.output.fieldSync, rfl⟩

/-- The pairing of the index: a pixel leaves when more than latency wait, and the output pixel is legal. -/
theorem Mixer.pair_ok {m : Mixer} {latency : Nat} (index : BitVec 4) (hl : latency ≤ 15) (table : ∀ i : Fin 16, legal (m.table[i]).colour)
    (matte : legal m.matte) (ctx : m.ctx.ok) (prevCtx : m.prevCtx.ok) (output : legal m.output.pixel)
    (pipeline : m.pipeline.length ≤ 16) (keyer : m.keyerNext ≠ some m.keyer) : (m.pair latency index).1.ok := by
  unfold Mixer.pair
  split
  · rename_i p rest waiting
    rw [waiting] at pipeline
    have short : rest.length ≤ 15 := Nat.le_of_succ_le_succ pipeline
    split
    · dsimp only
      split <;> exact ⟨table, matte, ctx, prevCtx, limitSample_legal _, short, keyer⟩
    · rename_i few
      refine ⟨table, matte, ctx, prevCtx, black_legal, ?_, keyer⟩
      dsimp only
      rw [waiting, List.length_cons]
      omega
  · rename_i waiting
    refine ⟨table, matte, ctx, prevCtx, output, ?_, keyer⟩
    rw [waiting]
    exact Nat.zero_le _

theorem Mixer.clock_ok {m : Mixer} {latency : Nat} (hl : latency ≤ 15) (p : Pixel) (index : BitVec 4) (lineSync fieldSync : Bool)
    (ok : m.ok) : (m.clock latency p index lineSync fieldSync).1.ok := by
  obtain ⟨table, matte, ctx, prevCtx, output, pipeline, keyer⟩ := ok
  unfold Mixer.clock
  obtain ⟨d, l, f, e⟩ := Mixer.delaySyncs_eq { m with pipeline := m.pipeline ++ [p] } latency lineSync fieldSync
  rw [e]
  refine Mixer.pair_ok index hl table matte ctx prevCtx output ?_ keyer
  rw [List.length_append]
  exact Nat.succ_le_succ pipeline

/-- The mixer's work on a pixel touches the pipeline, the output stage and the last clip. -/
theorem Mixer.clock_eq (m : Mixer) (latency : Nat) (p : Pixel) (index : BitVec 4) (lineSync fieldSync : Bool) :
    (m.clock latency p index lineSync fieldSync).1 =
      let r := (m.clock latency p index lineSync fieldSync).1
      { m with pipeline := r.pipeline, syncDelay := r.syncDelay, output := r.output, clip := r.clip } := by
  obtain ⟨d, l, f, e⟩ := Mixer.delaySyncs_eq { m with pipeline := m.pipeline ++ [p] } latency lineSync fieldSync
  unfold Mixer.clock
  rw [e]
  unfold Mixer.pair
  dsimp only
  split
  · split
    · split <;> rfl
    · rfl
  · rfl

theorem Keeps.mixPixel (s : State) (video : Sample) (index : BitVec 4) : Keeps s (s.mixPixel video index) := by
  have mixed : Keeps s (s.setMixer (s.mixer.clock s.timing.latency (s.pixelNow video) index s.timing.lineSync.isSome
      s.timing.fieldSync.isSome).1) := by
    refine .setMixer ?_ fun hl => Mixer.clock_ok hl _ index _ _
    rw [Mixer.clock_eq]
  unfold State.mixPixel
  dsimp only
  split
  · exact mixed.trans (.latch _ _)
  · exact mixed

theorem Keeps.carryTick {s : State} (index : BitVec 4) (ref : Sample) {event : State → State}
    (made : Keeps (s.accumulate.setTiming s.accumulate.timing.advancePixel)
      (event (s.accumulate.setTiming s.accumulate.timing.advancePixel))) : Keeps s (s.carryTick index ref event) :=
  (Keeps.accumulate s).trans ((Keeps.advancePixel _).trans (made.trans ((Keeps.sampleAndRead _ ref).trans
    ((Keeps.mixPixel _ _ index).trans ((Keeps.setStamp _ _).trans (.settle _))))))

end Sys2Proof.Machine

/-! The state after power-on has every property that the steps keep (Tables 1-B to 10-A). -/

namespace Sys2Proof.Machine

theorem State.reset_settle : State.reset.settle = State.reset := rfl

theorem State.reset_queues (q : Fin 4) : State.reset.reports.queues[q] = [] := by
  change (Vector.replicate 4 [])[(q : Nat)] = _
  exact Vector.getElem_replicate _

theorem State.reset_bounded : State.reset.reports.bounded := fun q => by
  rw [State.reset_queues]
  exact Nat.zero_le _

theorem State.reset_reportsOk : State.reset.reportsOk := by
  rw [← State.reset_settle]
  exact State.settle_reportsOk _ State.reset_bounded

theorem State.reset_slots : (∀ i, State.reset.store.role i = .free) ∧ State.reset.store.slotsOk :=
  Store.slotsOk_of_cleared rfl rfl rfl

theorem State.reset_lockOk : State.reset.lockOk :=
  ⟨by decide, fun _ => ⟨State.reset_slots.1, rfl, rfl⟩, rfl, by decide⟩

theorem State.reset_trackingOk : State.reset.trackingOk := by
  unfold State.trackingOk
  decide

theorem State.reset_classifierOk : State.reset.classifierOk :=
  ⟨by decide, by decide, by decide, by decide, by decide, nofun⟩

theorem State.reset_loopOk : State.reset.loopOk := by
  unfold State.loopOk
  decide

theorem State.reset_positionOk : State.reset.positionOk := by
  unfold State.positionOk
  decide

theorem LineContext.reset_table (i : Fin 16) : ColourEntry.resetTable[i] = ⟨Sample.black, .clear⟩ := by
  change (Vector.replicate 16 _)[(i : Nat)] = _
  exact Vector.getElem_replicate _

theorem LineContext.reset_ok : LineContext.reset.ok := by
  refine ⟨fun i => ?_, black_legal⟩
  change legal (ColourEntry.resetTable[i]).colour
  rw [LineContext.reset_table]
  exact black_legal

theorem State.reset_mixerOk : State.reset.mixerOk := by
  obtain ⟨table, matte⟩ := LineContext.reset_ok
  exact ⟨by decide, table, matte, LineContext.reset_ok, LineContext.reset_ok, black_legal, Nat.zero_le _, nofun⟩

theorem Banks.reset_window (n : BankName) (i : Fin 8) : (Banks.reset.windows n)[i] = Window.cleared := by
  cases n <;> exact Vector.getElem_replicate _

theorem State.reset_banks_ok : State.reset.banks.ok := fun n i => by
  change ((Banks.reset.windows n)[i]).ok
  rw [Banks.reset_window]
  exact Window.cleared_ok

theorem State.reset_fade (g : Fin 4) : State.reset.fades[g] = Fade.reset := by
  change (Vector.replicate 4 Fade.reset)[(g : Nat)] = _
  exact Vector.getElem_replicate _

theorem State.reset_cue (i : Fin 64) : State.reset.cues.records[i] = Cue.cleared := by
  change (Vector.replicate 64 Cue.cleared)[(i : Nat)] = _
  exact Vector.getElem_replicate _

theorem Fade.reset_ok : Fade.reset.ok := by
  unfold Fade.ok fadeRange
  decide

theorem State.reset_fadesOk : State.reset.fadesOk := by
  refine ⟨fun g => ?_, fun i => ?_⟩
  · rw [State.reset_fade]
    exact Fade.reset_ok
  · rw [State.reset_cue]
    trivial

theorem State.reset_cues_ok : State.reset.cues.ok := by
  refine ⟨?_, fun i _ => ?_⟩
  · change (List.finRange 64 ++ [] ++ [] ++ []).Perm (List.finRange 64)
    rw [List.append_nil, List.append_nil, List.append_nil]
  · rw [State.reset_cue]
    rfl

theorem Link.reset_ok (r : StrapRate) : { Link.reset with rate := r }.ok := ⟨Nat.zero_le _, nofun, rfl, rfl, rfl⟩

/-- Settles O4, unit by unit; the items of a table over an index hold one value at every index. -/
theorem resetHoldsPowerOnValues : Obligations.ResetHoldsPowerOnValues := by
  unfold Obligations.ResetHoldsPowerOnValues
  refine ⟨⟨by decide, by decide, by decide⟩, ⟨rfl, State.reset_slots.1, by decide⟩, ⟨LineContext.reset_table, by decide⟩,
    ⟨rfl, rfl, fun i => ⟨Banks.reset_window .a i, Banks.reset_window .b i⟩⟩, State.reset_fade,
    ⟨State.reset_cue, rfl, rfl, rfl, rfl⟩, ⟨State.reset_queues, fun n => ?_, rfl, rfl, rfl⟩, by decide⟩
  change (5 : BitVec 11).getLsbD n = true ↔ _
  by_cases inSet : n < 11
  · revert n
    decide
  · rw [BitVec.getLsbD_of_ge _ _ (Nat.le_of_not_lt inSet)]
    simp only [Bool.false_eq_true, false_iff]
    omega

/-- Settles O5, from the power-on values of each unit. -/
theorem resetHasEveryKeptProperty : Obligations.ResetHasEveryKeptProperty :=
  ⟨State.reset_reportsOk, State.reset_lockOk, State.reset_trackingOk, State.reset_classifierOk, State.reset_slots.2,
    State.reset_loopOk, State.reset_positionOk, State.reset_mixerOk, State.reset_banks_ok, State.reset_fadesOk,
    State.reset_cues_ok, Link.reset_ok .b19200⟩

/-- Every property is the power-on state's own, whatever stood before. -/
theorem Keeps.toReset (s : State) (l : Link) (stamp : Stamp) (pulse : Pulse) (draw : Nat) :
    Keeps s { State.reset with link := l, stamp := stamp, pulse := pulse, draw := draw, pending := s.pending } :=
  ⟨⟨rfl, fun _ => State.reset_bounded, fun _ => State.reset_lockOk, fun _ => State.reset_trackingOk,
    fun _ => State.reset_classifierOk, fun _ => State.reset_slots.2, fun _ => State.reset_loopOk, fun _ => State.reset_mixerOk,
    fun _ => State.reset_banks_ok, fun _ => State.reset_fadesOk, fun _ => State.reset_cues_ok⟩, fun _ => State.reset_positionOk⟩

end Sys2Proof.Machine

/-! What every command keeps, command by command, and from it what every step keeps. -/

namespace Sys2Proof.Machine

/-! ## Requests as such (Tables 10-E and 10-F) -/

/-- A refusal leaves the part as it stood and carries no results (R173). -/
def Answer.plain (s : State) (a : Answer) : Prop := a.status ≠ .ok → a.state = s ∧ a.results = []

@[simp] theorem Answer.plain_okay (s t : State) (results : List Byte) : Answer.plain s (t.okay results) := fun h => absurd rfl h

@[simp] theorem Answer.plain_refuse (s : State) (status : Status) : Answer.plain s (s.refuse status) := fun _ => ⟨rfl, rfl⟩

/-- An answer with another link in its state. -/
def Answer.withLink (a : Answer) (l : Link) : Answer := { a with state := a.state.setLink l }

theorem Answer.withLink_ite (p : Prop) [Decidable p] (a b : Answer) (l : Link) :
    (if p then a else b).withLink l = if p then a.withLink l else b.withLink l := by
  split <;> rfl

/-- The state in which an answer's reply is on its way. -/
def Answer.closed (kind : Byte) (a : Answer) : State := a.state.close kind (a.body kind)

/-! ### What does not read the link -/

section
variable (s : State) (l : Link)

theorem State.changeLock_setLink (new : LockState) (setsK : Bool) (e : Engine) :
    (s.setLink l).changeLock new setsK e = ((s.changeLock new setsK e).1.setLink l, (s.changeLock new setsK e).2) := by
  unfold State.changeLock
  dsimp only
  split <;> rfl

theorem State.postAll_setLink (ps : List Post) : (s.setLink l).postAll ps = (s.postAll ps).setLink l := by
  unfold State.postAll
  induction ps generalizing s with
  | nil => rfl
  | cons p ps ih => exact ih (s.post p)

theorem State.postWork_setLink (ahead : Option Work) (ws : List (Work × List Post)) :
    (s.setLink l).postWork ahead ws = (s.postWork ahead ws).setLink l := by
  unfold State.postWork
  rw [State.setLink_draw]
  generalize arrangeWork s.draw ahead ws = order
  have posted : ∀ t : State, order.foldl (fun u w => u.postAll w.2) (t.setLink l) =
      (order.foldl (fun u w => u.postAll w.2) t).setLink l := by
    induction order with
    | nil => exact fun _ => rfl
    | cons w ws ih => exact fun t => by rw [List.foldl_cons, List.foldl_cons, State.postAll_setLink, ih]
  rw [posted]
  rfl

theorem State.timingRestart_setLink (changed : Bool) : (s.setLink l).timingRestart changed = (s.timingRestart changed).setLink l := by
  unfold State.timingRestart
  rw [State.engineRestart_eq, State.engineRestart_eq, State.setLink_engine, State.setLink_timing, State.changeLock_setLink]
  generalize s.changeLock .free true _ = e
  exact State.postWork_setLink ((e.1.setClassifier _).setTiming { e.1.timing with restartPending := true }) l none _

theorem State.restarted_setLink (t : Timing) (changed : Bool) :
    ((s.setLink l).setTiming t).timingRestart changed = ((s.setTiming t).timingRestart changed).setLink l :=
  State.timingRestart_setLink (s.setTiming t) l changed

theorem State.editWindow_setLink (n : BankName) (i : Fin 8) (w : Window) :
    (s.setLink l).editWindow n i w = (s.editWindow n i w).withLink l := by
  unfold State.editWindow
  rw [Answer.withLink_ite]
  rfl

theorem State.enterInternal_setLink :
    (s.setLink l).enterInternal = (s.enterInternal.1.setLink l, s.enterInternal.2) := State.changeLock_setLink ..

theorem State.leaveInternal_setLink :
    (s.setLink l).leaveInternal = (s.leaveInternal.1.setLink l, s.leaveInternal.2) := State.changeLock_setLink ..

end

/-- What the answer of a request of the given parameter length does in any state. -/
structure IsAnswer (shape : Option Nat) (params : List Byte) (handler : State → Answer) : Prop where
  keeps (s : State) : Keeps s (handler s).state
  short (s : State) {n : Nat} : shape = some n → params.length ≠ n → handler s = s.refuse .badParam
  plain (s : State) : Answer.plain s (handler s)
  /-- Where the receiver stands makes no difference to what is answered. -/
  reception (s : State) (l : Link) (kind : Byte) : l.rate = s.link.rate → l.restartAwaits = s.link.restartAwaits →
    (handler (s.setLink l)).closed kind = (handler s).closed kind

/-- An answer that does not read the link leaves it, and so closes the receiver alike wherever it stood. -/
theorem Answer.closed_of_withLink {handler : State → Answer} (link : ∀ s l, handler (s.setLink l) = (handler s).withLink l)
    (s : State) (l : Link) (kind : Byte) (rate : l.rate = s.link.rate) (awaits : l.restartAwaits = s.link.restartAwaits) :
    (handler (s.setLink l)).closed kind = (handler s).closed kind := by
  have left : handler s = (handler s).withLink s.link := link s s.link
  rw [link s l, left]
  generalize handler s = a
  change a.state.setLink { l with
      rx := .closed, frame := none, timer := none, closedKind := kind, closedCount := 0, reply := replyFrame (a.body kind) } =
    a.state.setLink { s.link with
      rx := .closed, frame := none, timer := none, closedKind := kind, closedCount := 0, reply := replyFrame (a.body kind) }
  simp only [rate, awaits]

/-- An answer that reads its parameters as fields. -/
theorem IsAnswer.ofFields {sizes : List Nat} {n : Nat} {params : List Byte} {handler : State → Answer} (total : sizes.sum = n)
    (keeps : ∀ s, Keeps s (handler s).state) (plain : ∀ s, Answer.plain s (handler s))
    (none : fields sizes params = .none → ∀ s, handler s = s.refuse .badParam)
    (link : ∀ s l, handler (s.setLink l) = (handler s).withLink l) : IsAnswer (some n) params handler where
  keeps := keeps
  plain := plain
  short s m := by
    rintro ⟨⟩ length
    exact none (fields_none (total ▸ length)) s
  reception := Answer.closed_of_withLink link

/-- An answer of a request without parameters. -/
theorem IsAnswer.ofNone {params : List Byte} {handler : State → Answer} (keeps : ∀ s, Keeps s (handler s).state)
    (plain : ∀ s, Answer.plain s (handler s)) (some : params ≠ [] → ∀ s, handler s = s.refuse .badParam)
    (reception : ∀ (s : State) (l : Link) (kind : Byte), l.rate = s.link.rate → l.restartAwaits = s.link.restartAwaits →
      (handler (s.setLink l)).closed kind = (handler s).closed kind) :
    IsAnswer (.some 0) params handler where
  keeps := keeps
  plain := plain
  short s m := by
    rintro ⟨⟩ length
    exact some (fun h => length (by rw [h]; rfl)) s
  reception := reception

section
variable (ps : List Byte)

theorem IsAnswer.echo : IsAnswer none ps fun t => t.okay ps :=
  ⟨fun s => .refl s, fun _ => nofun, fun s => by simp, Answer.closed_of_withLink (handler := fun t => t.okay ps) fun _ _ => rfl⟩

/-- RESTART alone writes into the link, and what it writes the closing keeps. -/
theorem answerRestart_reception (s : State) (l : Link) (kind : Byte) (rate : l.rate = s.link.rate)
    (awaits : l.restartAwaits = s.link.restartAwaits) :
    (answerRestart ps (s.setLink l)).closed kind = (answerRestart ps s).closed kind := by
  unfold answerRestart
  split
  · change s.setLink { l with
        rx := .closed, frame := none, timer := none, closedKind := kind, closedCount := 0, reply := _, restartAwaits := true } =
      s.setLink { s.link with
        rx := .closed, frame := none, timer := none, closedKind := kind, closedCount := 0, reply := _, restartAwaits := true }
    simp only [rate]
    rfl
  · exact Answer.closed_of_withLink (handler := fun t => t.refuse .badParam) (fun _ _ => rfl) s l kind rate awaits

theorem IsAnswer.restart : IsAnswer (some 0) ps (answerRestart ps) := by
  refine .ofNone (.answerRestart ps) (fun s => ?_) (fun h s => ?_) (answerRestart_reception ps)
  · unfold answerRestart
    split <;> simp
  · unfold answerRestart
    split
    · exact absurd rfl h
    · rfl

theorem IsAnswer.queryMixer : IsAnswer (some 0) ps (answerQueryMixer ps) := by
  refine .ofNone (.answerQueryMixer ps) (fun s => ?_) (fun h s => ?_)
    (Answer.closed_of_withLink fun s l => ?_)
  · unfold answerQueryMixer
    split <;> simp
  · unfold answerQueryMixer
    split
    · exact absurd rfl h
    · rfl
  · unfold answerQueryMixer
    repeat' split
    all_goals rfl

theorem IsAnswer.setInternal : IsAnswer (some 0) ps (answerSetInternal ps) := by
  refine .ofNone (.answerSetInternal ps) (fun s => ?_) (fun h s => ?_)
    (Answer.closed_of_withLink fun s l => ?_)
  · unfold answerSetInternal
    repeat' split
    all_goals simp
  · unfold answerSetInternal
    split
    · exact absurd rfl h
    · rfl
  · unfold answerSetInternal
    dsimp only
    rw [State.enterInternal_setLink, State.postAll_setLink]
    split
    · by_cases internal : s.engine.lock = .internal
      · rw [if_pos internal, if_pos (show (s.setLink l).engine.lock = .internal from internal)]
        rfl
      · rw [if_neg internal, if_neg (show ¬(s.setLink l).engine.lock = .internal from internal)]
        rfl
    · rfl

theorem IsAnswer.releaseInternal : IsAnswer (some 0) ps (answerReleaseInternal ps) := by
  refine .ofNone (.answerReleaseInternal ps) (fun s => ?_) (fun h s => ?_)
    (Answer.closed_of_withLink fun s l => ?_)
  · unfold answerReleaseInternal
    repeat' split
    all_goals simp
  · unfold answerReleaseInternal
    split
    · exact absurd rfl h
    · rfl
  · unfold answerReleaseInternal
    dsimp only
    rw [State.leaveInternal_setLink, State.postAll_setLink]
    split
    · by_cases internal : s.engine.lock = .internal
      · rw [if_pos internal, if_pos (show (s.setLink l).engine.lock = .internal from internal)]
        rfl
      · rw [if_neg internal, if_neg (show ¬(s.setLink l).engine.lock = .internal from internal)]
        rfl
    · rfl

theorem IsAnswer.query {record : State → List Byte} (unread : ∀ s l, record (s.setLink l) = record s) :
    IsAnswer (some 0) ps fun t => t.query ps (record t) := by
  refine .ofNone (fun s => .query ps s (record s)) (fun s => ?_) (fun h s => ?_)
    (Answer.closed_of_withLink (handler := fun t => t.query ps (record t)) fun s l => ?_)
  · unfold State.query
    split <;> simp
  · unfold State.query
    split
    · exact absurd rfl h
    · rfl
  · rw [unread]
    unfold State.query
    split <;> rfl

theorem IsAnswer.cueCollect : IsAnswer (some 0) ps (answerCueCollect ps) := by
  refine .ofNone (.answerCueCollect ps) (fun s => ?_) (fun h s => ?_)
    (Answer.closed_of_withLink fun s l => ?_)
  · unfold answerCueCollect
    repeat' split
    all_goals simp
  · unfold answerCueCollect
    split
    · exact absurd rfl h
    · rfl
  · unfold answerCueCollect
    simp only [State.setLink_cues]
    repeat' split
    all_goals rfl

theorem IsAnswer.setStandard : IsAnswer (some 1) ps (answerSetStandard ps) := by
  refine .ofFields (sizes := [1]) rfl (.answerSetStandard ps) (fun s => ?_) (fun h s => by rw [answerSetStandard, h]) (fun s l => ?_)
  · unfold answerSetStandard
    repeat' split
    all_goals simp
  · unfold answerSetStandard
    split
    · split
      · rfl
      · dsimp only
        split
        · rename_i same
          rw [if_pos (show s.timing.standard = _ from same)]
          rfl
        · rename_i other
          rw [if_neg (show ¬s.timing.standard = _ from other), State.restarted_setLink]
          rfl
    · rfl

theorem IsAnswer.setRaster : IsAnswer (some 4) ps (answerSetRaster ps) := by
  refine .ofFields (sizes := [2, 1, 1]) rfl (.answerSetRaster ps) (fun s => ?_) (fun h s => by rw [answerSetRaster, h]) (fun s l => ?_)
  · unfold answerSetRaster
    repeat' split
    all_goals simp
  · unfold answerSetRaster
    split
    · split
      · rfl
      · dsimp only
        split
        · rename_i same
          rw [if_pos (show s.timing.withRaster _ _ _ = s.timing from same)]
          rfl
        · rename_i other
          rw [if_neg (show ¬s.timing.withRaster _ _ _ = s.timing from other), State.restarted_setLink]
          rfl
    · rfl

theorem IsAnswer.setProfile : IsAnswer (some 1) ps (answerSetProfile ps) := by
  refine .ofFields (sizes := [1]) rfl (.answerSetProfile ps) (fun s => ?_) (fun h s => by rw [answerSetProfile, h]) (fun s l => ?_)
  · unfold answerSetProfile
    repeat' split
    all_goals simp
  · unfold answerSetProfile
    repeat' split
    all_goals rfl

theorem IsAnswer.setGains : IsAnswer (some 4) ps (answerSetGains ps) := by
  refine .ofFields (sizes := [1, 1, 1, 1]) rfl (.answerSetGains ps) (fun s => ?_) (fun h s => by rw [answerSetGains, h]) (fun s l => ?_)
  · unfold answerSetGains
    repeat' split
    all_goals simp
  · unfold answerSetGains
    repeat' split
    all_goals rfl

theorem IsAnswer.setLockWindows : IsAnswer (some 8) ps (answerSetLockWindows ps) := by
  refine .ofFields (sizes := [2, 2, 2, 2]) rfl (.answerSetLockWindows ps) (fun s => ?_) (fun h s => by rw [answerSetLockWindows, h]) (fun s l => ?_)
  · unfold answerSetLockWindows
    repeat' split
    all_goals simp
  · unfold answerSetLockWindows
    repeat' split
    all_goals rfl

theorem IsAnswer.setQualify : IsAnswer (some 3) ps (answerSetQualify ps) := by
  refine .ofFields (sizes := [1, 2]) rfl (.answerSetQualify ps) (fun s => ?_) (fun h s => by rw [answerSetQualify, h]) (fun s l => ?_)
  · unfold answerSetQualify
    repeat' split
    all_goals simp
  · unfold answerSetQualify
    repeat' split
    all_goals rfl

theorem IsAnswer.setAdvance : IsAnswer (some 2) ps (answerSetAdvance ps) := by
  refine .ofFields (sizes := [2]) rfl (.answerSetAdvance ps) (fun s => ?_) (fun h s => by rw [answerSetAdvance, h]) (fun s l => ?_)
  · unfold answerSetAdvance
    repeat' split
    all_goals simp
  · unfold answerSetAdvance
    repeat' split
    all_goals rfl

theorem IsAnswer.setFieldCount : IsAnswer (some 3) ps (answerSetFieldCount ps) := by
  refine .ofFields (sizes := [3]) rfl (.answerSetFieldCount ps) (fun s => ?_) (fun h s => by rw [answerSetFieldCount, h]) (fun s l => ?_)
  · unfold answerSetFieldCount
    repeat' split
    all_goals simp
  · unfold answerSetFieldCount
    repeat' split
    all_goals rfl

theorem IsAnswer.setSyncWindows : IsAnswer (some 6) ps (answerSetSyncWindows ps) := by
  refine .ofFields (sizes := [2, 2, 1, 1]) rfl (.answerSetSyncWindows ps) (fun s => ?_) (fun h s => by rw [answerSetSyncWindows, h]) (fun s l => ?_)
  · unfold answerSetSyncWindows
    repeat' split
    all_goals simp
  · unfold answerSetSyncWindows
    repeat' split
    all_goals rfl

theorem IsAnswer.setStoreDelay : IsAnswer (some 1) ps (answerSetStoreDelay ps) := by
  refine .ofFields (sizes := [1]) rfl (.answerSetStoreDelay ps) (fun s => ?_) (fun h s => by rw [answerSetStoreDelay, h]) (fun s l => ?_)
  · unfold answerSetStoreDelay
    repeat' split
    all_goals simp
  · unfold answerSetStoreDelay
    repeat' split
    all_goals rfl

theorem IsAnswer.setVideoTrim : IsAnswer (some 1) ps (answerSetVideoTrim ps) := by
  refine .ofFields (sizes := [1]) rfl (.answerSetVideoTrim ps) (fun s => ?_) (fun h s => by rw [answerSetVideoTrim, h]) (fun s l => ?_)
  · unfold answerSetVideoTrim
    repeat' split
    all_goals simp
  · unfold answerSetVideoTrim
    repeat' split
    all_goals rfl

theorem IsAnswer.setColour : IsAnswer (some 5) ps (answerSetColour ps) := by
  refine .ofFields (sizes := [1, 1, 1, 1, 1]) rfl (.answerSetColour ps) (fun s => ?_) (fun h s => by rw [answerSetColour, h]) (fun s l => ?_)
  · unfold answerSetColour
    repeat' split
    all_goals simp
  · unfold answerSetColour
    repeat' split
    all_goals rfl

theorem IsAnswer.setMatte : IsAnswer (some 3) ps (answerSetMatte ps) := by
  refine .ofFields (sizes := [1, 1, 1]) rfl (.answerSetMatte ps) (fun s => ?_) (fun h s => by rw [answerSetMatte, h]) (fun s l => ?_)
  · unfold answerSetMatte
    repeat' split
    all_goals simp
  · unfold answerSetMatte
    repeat' split
    all_goals rfl

theorem IsAnswer.setLossPolicy : IsAnswer (some 1) ps (answerSetLossPolicy ps) := by
  refine .ofFields (sizes := [1]) rfl (.answerSetLossPolicy ps) (fun s => ?_) (fun h s => by rw [answerSetLossPolicy, h]) (fun s l => ?_)
  · unfold answerSetLossPolicy
    repeat' split
    all_goals simp
  · unfold answerSetLossPolicy
    repeat' split
    all_goals rfl

theorem IsAnswer.keyer : IsAnswer (some 1) ps (answerKeyer ps) := by
  refine .ofFields (sizes := [1]) rfl (.answerKeyer ps) (fun s => ?_) (fun h s => by rw [answerKeyer, h]) (fun s l => ?_)
  · unfold answerKeyer
    repeat' split
    all_goals simp
  · unfold answerKeyer
    repeat' split
    all_goals rfl

theorem IsAnswer.windowSet : IsAnswer (some 15) ps (answerWindowSet ps) := by
  refine .ofFields (sizes := [1, 1, 1, 2, 2, 2, 2, 1, 1, 2]) rfl (.answerWindowSet ps) (fun s => ?_) (fun h s => by rw [answerWindowSet, h]) (fun s l => ?_)
  · unfold answerWindowSet State.editWindow
    repeat' split
    all_goals simp
  · unfold answerWindowSet
    split
    · split
      · exact s.editWindow_setLink l _ _ _
      · rfl
    · rfl

theorem IsAnswer.windowClear : IsAnswer (some 2) ps (answerWindowClear ps) := by
  refine .ofFields (sizes := [1, 1]) rfl (.answerWindowClear ps) (fun s => ?_) (fun h s => by rw [answerWindowClear, h]) (fun s l => ?_)
  · unfold answerWindowClear State.editWindow
    repeat' split
    all_goals simp
  · unfold answerWindowClear
    split
    · split
      · exact s.editWindow_setLink l _ _ _
      · rfl
    · rfl

theorem IsAnswer.bankSwap : IsAnswer (some 1) ps (answerBankSwap ps) := by
  refine .ofFields (sizes := [1]) rfl (.answerBankSwap ps) (fun s => ?_) (fun h s => by rw [answerBankSwap, h]) (fun s l => ?_)
  · unfold answerBankSwap
    repeat' split
    all_goals simp
  · unfold answerBankSwap
    simp only [State.setLink_banks]
    repeat' split
    all_goals rfl

theorem IsAnswer.queryBank : IsAnswer (some 1) ps (answerQueryBank ps) := by
  refine .ofFields (sizes := [1]) rfl (.answerQueryBank ps) (fun s => ?_) (fun h s => by rw [answerQueryBank, h]) (fun s l => ?_)
  · unfold answerQueryBank
    repeat' split
    all_goals simp
  · unfold answerQueryBank
    repeat' split
    all_goals rfl

theorem IsAnswer.fadeLoad : IsAnswer (some 13) ps (answerFadeLoad ps) := by
  refine .ofFields (sizes := [1, 3, 2, 3, 3, 1]) rfl (.answerFadeLoad ps) (fun s => ?_) (fun h s => by rw [answerFadeLoad, h]) (fun s l => ?_)
  · unfold answerFadeLoad State.putFade
    repeat' split
    all_goals simp
  · unfold answerFadeLoad
    repeat' split
    all_goals rfl

theorem IsAnswer.cueNew : IsAnswer (some 25) ps (answerCueNew ps) := by
  refine .ofFields (sizes := 1 :: cueContentSizes) rfl (.answerCueNew ps) (fun s => ?_) (fun h s => by rw [answerCueNew, h]) (fun s l => ?_)
  · unfold answerCueNew
    repeat' split
    all_goals simp
  · unfold answerCueNew
    simp only [State.setLink_cues]
    repeat' split
    all_goals rfl

theorem IsAnswer.cueSet : IsAnswer (some 25) ps (answerCueSet ps) := by
  refine .ofFields (sizes := 1 :: cueContentSizes) rfl (.answerCueSet ps) (fun s => ?_) (fun h s => by rw [answerCueSet, h]) (fun s l => ?_)
  · unfold answerCueSet
    repeat' split
    all_goals simp
  · unfold answerCueSet
    simp only [State.setLink_cues]
    repeat' split
    all_goals rfl

theorem IsAnswer.cueMove : IsAnswer (some 3) ps (answerCueMove ps) := by
  refine .ofFields (sizes := [1, 1, 1]) rfl (.answerCueMove ps) (fun s => ?_) (fun h s => by rw [answerCueMove, h]) (fun s l => ?_)
  · unfold answerCueMove State.moveCue
    repeat' split
    all_goals simp
  · unfold answerCueMove
    split
    · split
      · rw [Answer.withLink_ite]
        rfl
      · rfl
    · rfl

theorem IsAnswer.cuePlace : IsAnswer (some 2) ps (answerCuePlace ps) := by
  refine .ofFields (sizes := [1, 1]) rfl (.answerCuePlace ps) (fun s => ?_) (fun h s => by rw [answerCuePlace, h]) (fun s l => ?_)
  · unfold answerCuePlace State.moveCue
    repeat' split
    all_goals simp
  · unfold answerCuePlace
    split
    · split
      · rw [Answer.withLink_ite, Answer.withLink_ite]
        rfl
      · rfl
    · rfl

theorem IsAnswer.cueList : IsAnswer (some 1) ps (answerCueList ps) := by
  refine .ofFields (sizes := [1]) rfl (.answerCueList ps) (fun s => ?_) (fun h s => by rw [answerCueList, h]) (fun s l => ?_)
  · unfold answerCueList
    repeat' split
    all_goals simp
  · unfold answerCueList
    repeat' split
    all_goals rfl

theorem IsAnswer.conditions : IsAnswer (some 2) ps (answerConditions ps) := by
  refine .ofFields (sizes := [2]) rfl (.answerConditions ps) (fun s => ?_) (fun h s => by rw [answerConditions, h]) (fun s l => ?_)
  · unfold answerConditions
    repeat' split
    all_goals simp
  · unfold answerConditions
    repeat' split
    all_goals rfl

theorem IsAnswer.setAttention : IsAnswer (some 3) ps (answerSetAttention ps) := by
  refine .ofFields (sizes := [2, 1]) rfl (.answerSetAttention ps) (fun s => ?_) (fun h s => by rw [answerSetAttention, h]) (fun s l => ?_)
  · unfold answerSetAttention
    repeat' split
    all_goals simp
  · unfold answerSetAttention
    repeat' split
    all_goals rfl

theorem IsAnswer.fadeHold : IsAnswer (some 1) ps (answerFadeHold ps) := by
  refine .ofFields (sizes := [1]) rfl (.answerFadeHold ps) (fun s => ?_) (fun h s => by rw [answerFadeHold, generatorOf, h]) (fun s l => ?_)
  · unfold answerFadeHold State.putFade
    repeat' split
    all_goals simp
  · unfold answerFadeHold
    repeat' split
    all_goals rfl

theorem IsAnswer.fadeResume : IsAnswer (some 1) ps (answerFadeResume ps) := by
  refine .ofFields (sizes := [1]) rfl (.answerFadeResume ps) (fun s => ?_) (fun h s => by rw [answerFadeResume, generatorOf, h]) (fun s l => ?_)
  · unfold answerFadeResume State.putFade
    repeat' split
    all_goals simp
  · unfold answerFadeResume
    repeat' split
    all_goals rfl

theorem IsAnswer.queryFade : IsAnswer (some 1) ps (answerQueryFade ps) := by
  refine .ofFields (sizes := [1]) rfl (.answerQueryFade ps) (fun s => ?_) (fun h s => by rw [answerQueryFade, generatorOf, h]) (fun s l => ?_)
  · unfold answerQueryFade
    repeat' split
    all_goals simp
  · unfold answerQueryFade
    repeat' split
    all_goals rfl

theorem IsAnswer.cueDiscard : IsAnswer (some 1) ps (answerCueDiscard ps) := by
  refine .ofFields (sizes := [1]) rfl (.answerCueDiscard ps) (fun s => ?_) (fun h s => by rw [answerCueDiscard, cueOf, h]) (fun s l => ?_)
  · unfold answerCueDiscard
    repeat' split
    all_goals simp
  · unfold answerCueDiscard
    split
    · rfl
    · rw [Answer.withLink_ite]
      rfl

theorem IsAnswer.cueRead : IsAnswer (some 1) ps (answerCueRead ps) := by
  refine .ofFields (sizes := [1]) rfl (.answerCueRead ps) (fun s => ?_) (fun h s => by rw [answerCueRead, cueOf, h]) (fun s l => ?_)
  · unfold answerCueRead
    repeat' split
    all_goals simp
  · unfold answerCueRead
    repeat' split
    all_goals rfl

theorem IsAnswer.reportPeek : IsAnswer (some 1) ps (answerReportPeek ps) := by
  refine .ofFields (sizes := [1]) rfl (.answerReportPeek ps) (fun s => ?_) (fun h s => by rw [answerReportPeek, queueOf, h]) (fun s l => ?_)
  · unfold answerReportPeek
    repeat' split
    all_goals simp
  · unfold answerReportPeek
    split
    · rfl
    · rename_i q _
      cases queue : s.reports.queues[q] <;> simp only [State.setLink_reports, queue] <;> rfl

theorem IsAnswer.reportTake : IsAnswer (some 1) ps (answerReportTake ps) := by
  refine .ofFields (sizes := [1]) rfl (.answerReportTake ps) (fun s => ?_) (fun h s => by rw [answerReportTake, queueOf, h]) (fun s l => ?_)
  · unfold answerReportTake
    repeat' split
    all_goals simp
  · unfold answerReportTake
    split
    · rfl
    · rename_i q _
      cases queue : s.reports.queues[q] <;> simp only [State.setLink_reports, queue] <;> rfl

theorem IsAnswer.reportFlush : IsAnswer (some 1) ps (answerReportFlush ps) := by
  refine .ofFields (sizes := [1]) rfl (.answerReportFlush ps) (fun s => ?_) (fun h s => by rw [answerReportFlush, queueOf, h]) (fun s l => ?_)
  · unfold answerReportFlush
    repeat' split
    all_goals simp
  · unfold answerReportFlush
    repeat' split
    all_goals rfl

end

end Sys2Proof.Machine

/-! What every command keeps, and from it what every step keeps. -/

namespace Sys2Proof.Machine

/-- Every request of Tables 10-E and 10-F is taken as one frame by the answer of its row. -/
theorem exec_request {c : Instr} {kind : Byte} {shape : Option Nat} {params : List Byte}
    (row : requestShape c = some (kind, shape)) (given : c.params = some params) :
    ∃ handler, (∀ s, exec c s = s.request kind params handler) ∧ IsAnswer shape params handler := by
  cases c <;> cases row <;> cases given
  case echo.refl.refl => exact ⟨_, fun _ => rfl, .echo _⟩
  case restart.refl.refl => exact ⟨_, fun _ => rfl, .restart _⟩
  case setStandard.refl.refl => exact ⟨_, fun _ => rfl, .setStandard _⟩
  case setRaster.refl.refl => exact ⟨_, fun _ => rfl, .setRaster _⟩
  case setProfile.refl.refl => exact ⟨_, fun _ => rfl, .setProfile _⟩
  case setGains.refl.refl => exact ⟨_, fun _ => rfl, .setGains _⟩
  case setLockWindows.refl.refl => exact ⟨_, fun _ => rfl, .setLockWindows _⟩
  case setQualify.refl.refl => exact ⟨_, fun _ => rfl, .setQualify _⟩
  case setAdvance.refl.refl => exact ⟨_, fun _ => rfl, .setAdvance _⟩
  case setInternal.refl.refl => exact ⟨_, fun _ => rfl, .setInternal _⟩
  case releaseInternal.refl.refl => exact ⟨_, fun _ => rfl, .releaseInternal _⟩
  case setFieldCount.refl.refl => exact ⟨_, fun _ => rfl, .setFieldCount _⟩
  case queryLock.refl.refl => exact ⟨_, fun _ => rfl, .query _ (record := fun t => t.classifier.bytes ++ t.engine.bytes) fun _ _ => rfl⟩
  case queryTiming.refl.refl => exact ⟨_, fun _ => rfl, .query _ (record := fun t => t.timing.bytes) fun _ _ => rfl⟩
  case setSyncWindows.refl.refl => exact ⟨_, fun _ => rfl, .setSyncWindows _⟩
  case setStoreDelay.refl.refl => exact ⟨_, fun _ => rfl, .setStoreDelay _⟩
  case setVideoTrim.refl.refl => exact ⟨_, fun _ => rfl, .setVideoTrim _⟩
  case queryStore.refl.refl => exact ⟨_, fun _ => rfl, .query _ (record := fun t => t.store.bytes) fun _ _ => rfl⟩
  case setColour.refl.refl => exact ⟨_, fun _ => rfl, .setColour _⟩
  case setMatte.refl.refl => exact ⟨_, fun _ => rfl, .setMatte _⟩
  case setLossPolicy.refl.refl => exact ⟨_, fun _ => rfl, .setLossPolicy _⟩
  case keyer.refl.refl => exact ⟨_, fun _ => rfl, .keyer _⟩
  case windowSet.refl.refl => exact ⟨_, fun _ => rfl, .windowSet _⟩
  case windowClear.refl.refl => exact ⟨_, fun _ => rfl, .windowClear _⟩
  case bankSwap.refl.refl => exact ⟨_, fun _ => rfl, .bankSwap _⟩
  case queryBank.refl.refl => exact ⟨_, fun _ => rfl, .queryBank _⟩
  case queryMixer.refl.refl => exact ⟨_, fun _ => rfl, .queryMixer _⟩
  case fadeLoad.refl.refl => exact ⟨_, fun _ => rfl, .fadeLoad _⟩
  case fadeHold.refl.refl => exact ⟨_, fun _ => rfl, .fadeHold _⟩
  case fadeResume.refl.refl => exact ⟨_, fun _ => rfl, .fadeResume _⟩
  case queryFade.refl.refl => exact ⟨_, fun _ => rfl, .queryFade _⟩
  case cueNew.refl.refl => exact ⟨_, fun _ => rfl, .cueNew _⟩
  case cueSet.refl.refl => exact ⟨_, fun _ => rfl, .cueSet _⟩
  case cueMove.refl.refl => exact ⟨_, fun _ => rfl, .cueMove _⟩
  case cuePlace.refl.refl => exact ⟨_, fun _ => rfl, .cuePlace _⟩
  case cueDiscard.refl.refl => exact ⟨_, fun _ => rfl, .cueDiscard _⟩
  case cueRead.refl.refl => exact ⟨_, fun _ => rfl, .cueRead _⟩
  case cueList.refl.refl => exact ⟨_, fun _ => rfl, .cueList _⟩
  case cueCollect.refl.refl => exact ⟨_, fun _ => rfl, .cueCollect _⟩
  case reportPeek.refl.refl => exact ⟨_, fun _ => rfl, .reportPeek _⟩
  case reportTake.refl.refl => exact ⟨_, fun _ => rfl, .reportTake _⟩
  case reportFlush.refl.refl => exact ⟨_, fun _ => rfl, .reportFlush _⟩
  case conditions.refl.refl => exact ⟨_, fun _ => rfl, .conditions _⟩
  case setAttention.refl.refl => exact ⟨_, fun _ => rfl, .setAttention _⟩

theorem requestShape_params {c : Instr} {row : Byte × Option Nat} (h : requestShape c = some row) :
    ∃ params, c.params = some params := by
  cases given : c.params with
  | some params => exact ⟨params, rfl⟩
  | none => cases c <;> cases given <;> cases h

/-! ## The report unit's judgement and the link -/

/-- The judgement ends the command, or nothing that it reads has changed. -/
def State.judgedFrom (s t : State) : Prop := (∃ u : State, t = u.settle) ∨ (t.reports = s.reports ∧ t.causes = s.causes)

/-- What a command keeps: the properties of the units, the judgement, and the link's reception. -/
structure Kept (s t : State) : Prop extends Keeps s t where
  judged : s.judgedFrom t
  link : s.link.ok → t.link.ok

theorem Kept.refl (s : State) : Kept s s := ⟨.refl s, Or.inr ⟨rfl, rfl⟩, id⟩

/-- A command that ends with the judgement and leaves the link. -/
theorem Kept.settled {s u : State} (keeps : Keeps s u) (link : s.link.ok → u.link.ok) : Kept s u.settle :=
  ⟨keeps.trans (.settle u), Or.inl ⟨u, rfl⟩, link⟩

/-- With the queues in their room the judgement makes the report unit's property hold, whatever stood before. -/
theorem Kept.reportsOk {s t : State} (kept : Kept s t) (ok : s.reportsOk) : t.reportsOk := by
  have bound := kept.queues ok.1
  obtain ⟨u, rfl⟩ | ⟨reports, causes⟩ := kept.judged
  · exact u.settle_reportsOk bound
  · obtain ⟨-, latched, attn⟩ := ok
    refine ⟨bound, ?_, ?_⟩
    · rw [reports, causes]
      exact latched
    · rw [reports]
      exact attn

theorem Link.closed_ok (l : Link) (kind : Byte) (body : List Byte) : { l with
    rx := .closed, frame := none, timer := none, closedKind := kind, closedCount := 0, reply := replyFrame body }.ok := by
  refine ⟨Nat.zero_le _, fun _ => rfl, rfl, rfl, ?_⟩
  rw [replyFrame_eq]
  exact List.cons_ne_nil _ _

/-- The count of discarded bytes stops at its bound. -/
theorem Link.count_ok {l : Link} (n : Nat) (ok : l.ok) : { l with closedCount := min 65535 (l.closedCount + n) }.ok :=
  ⟨Nat.min_le_left _ _, ok.2⟩

theorem State.discardBytes_link (s : State) (n : Nat) :
    (s.discardBytes n).link = { s.link with closedCount := min 65535 (s.link.closedCount + n) } := by
  rw [State.discardBytes_eq, State.setLink_link]

theorem State.discardBytes_linkOk {s : State} (n : Nat) (ok : s.link.ok) : (s.discardBytes n).link.ok := by
  rw [State.discardBytes_link]
  exact Link.count_ok n ok

theorem Kept.request {s : State} {kind : Byte} {params : List Byte} {handler : State → Answer}
    (handled : Keeps s (handler s).state) : ∃ t, s.request kind params handler = .next t ∧ Kept s t := by
  obtain e | e | e := s.request_next kind params handler
  · exact ⟨_, e, .settled (handled.trans (.close _ _ _)) fun _ => Link.closed_ok _ _ _⟩
  · exact ⟨_, e, .settled (.discardBytes s _) (State.discardBytes_linkOk _)⟩
  · exact ⟨s, e, .refl s⟩

/-! ## The commands of the reference input -/

theorem Kept.ofLockHalf {s u : State} (keeps : Keeps s u) (half : lockHalfOnly s u) : Kept s u.settle := by
  obtain ⟨⟨-, -, -, -, -, -, link, -⟩, -⟩ := half
  exact .settled keeps (by rw [link]; exact id)

theorem Kept.syncPulse (width : Nat) (s : State) : ∃ t, execSyncPulse width s = .next t ∧ Kept s t := by
  unfold execSyncPulse
  split
  · exact ⟨_, rfl, .refl s⟩
  · exact ⟨_, rfl, .setPulse s _, Or.inr ⟨rfl, rfl⟩, id⟩
  · exact ⟨_, rfl, .settled ((Keeps.setPulse s _).trans (.handlePulse _ _ _)) (Kept.ofLockHalf (.handlePulse _ _ _)
      (lockHalfOnly_handlePulse (s.setPulse .idle) _ _)).link⟩

theorem Kept.overlongPulse (s : State) : ∃ t, execOverlongPulse s = .next t ∧ Kept s t := by
  unfold execOverlongPulse
  split
  · exact ⟨_, rfl, .settled ((Keeps.setPulse s _).trans (.handlePulse _ _ _)) (Kept.ofLockHalf (.handlePulse _ _ _)
      (lockHalfOnly_handlePulse (s.setPulse .handled) _ _)).link⟩
  · exact ⟨_, rfl, .refl s⟩

theorem Kept.pulseLeadingEdge (stamp : Stamp) (s : State) : ∃ t, execPulseLeadingEdge stamp s = .next t ∧ Kept s t := by
  unfold execPulseLeadingEdge
  split
  · exact ⟨_, rfl, .setPulse s _, Or.inr ⟨rfl, rfl⟩, id⟩
  · exact ⟨_, rfl, .refl s⟩

theorem Kept.candidateExpiry (s : State) : ∃ t, execCandidateExpiry s = .next t ∧ Kept s t := by
  unfold execCandidateExpiry
  split
  · exact ⟨_, rfl, .setCandidate s none, Or.inr ⟨rfl, rfl⟩, id⟩
  · exact ⟨_, rfl, .refl s⟩

theorem Keeps.holdClose (s : State) : Keeps s (s.setClassifier { s.classifier with closeHeld := true }) :=
  .setClassifier_same rfl (Classifier.inRange_of_eq rfl)

theorem Kept.wideWindowClose (s : State) : ∃ t, execWideWindowClose s = .next t ∧ Kept s t := by
  unfold execWideWindowClose
  split
  · exact ⟨_, rfl, .refl s⟩
  · rename_i track
    split
    · exact ⟨_, rfl, .holdClose s, Or.inr ⟨rfl, rfl⟩, id⟩
    · exact ⟨_, rfl, .ofLockHalf (.makeSynthetic track) (lockHalfOnly_makeSynthetic s)⟩

/-! ## The commands of power and of the link -/

theorem State.reset_with_reportsOk (s : State) (l : Link) (stamp : Stamp) (pulse : Pulse) (draw : Nat) : State.reportsOk
    { State.reset with link := l, stamp := stamp, pulse := pulse, draw := draw, pending := s.pending } := State.reset_reportsOk

/-- The power-on state is judged already, whatever the items that no condition reads. -/
theorem State.judgedFrom_reset (s : State) (l : Link) (stamp : Stamp) (pulse : Pulse) (draw : Nat) :
    s.judgedFrom { State.reset with link := l, stamp := stamp, pulse := pulse, draw := draw, pending := s.pending } :=
  Or.inl ⟨_, (State.settle_of_reportsOk _ (s.reset_with_reportsOk l stamp pulse draw)).symm⟩

theorem Kept.powerOn (rate0 rate1 : Bool) (s : State) : ∃ t, execPowerOn rate0 rate1 s = .next t ∧ Kept s t :=
  ⟨_, rfl, .toReset s _ _ _ _, s.judgedFrom_reset _ _ _ _, fun _ => Link.reset_ok _⟩

theorem Kept.restartTakesEffect (s : State) : ∃ t, execRestartTakesEffect s = .next t ∧ Kept s t := by
  unfold execRestartTakesEffect
  split
  · exact ⟨_, rfl, .toReset s _ _ _ _, s.judgedFrom_reset _ _ _ _, fun _ => Link.reset_ok _⟩
  · exact ⟨_, rfl, .refl s⟩

theorem Kept.badLength (n : Byte) (s : State) : ∃ t, execBadLength n s = .next t ∧ Kept s t := by
  unfold execBadLength
  split
  · exact ⟨_, rfl, .settled ((Keeps.post _ _).trans (.close _ _ _)) fun _ => Link.closed_ok _ _ _⟩
  · exact ⟨_, rfl, .refl s⟩

theorem Kept.badCheck (check : Byte) (s : State) : ∃ t, execBadCheck check s = .next t ∧ Kept s t := by
  unfold execBadCheck
  split
  · split
    · exact ⟨_, rfl, .refl s⟩
    · exact ⟨_, rfl, .settled ((Keeps.post _ _).trans (.close _ _ _)) fun _ => Link.closed_ok _ _ _⟩
  · exact ⟨_, rfl, .refl s⟩

/-- A stage is one of the three states in the middle of a frame. -/
theorem Link.stage_some {l : Link} {x : Nat × Nat} (h : l.stage = some x) :
    l.rx = .awaitLength ∨ l.rx = .inBody ∨ l.rx = .awaitCheck := by
  unfold Link.stage at h
  split at h
  · rename_i rx
    exact Or.inl rx
  · rename_i rx _
    exact Or.inr (Or.inl rx)
  · rename_i rx _
    exact Or.inr (Or.inr rx)
  · cases h

/-- In the middle of a frame no reply stands and no RESTART waits. -/
theorem Link.midFrame {l : Link} (ok : l.ok) (mid : l.rx = .awaitLength ∨ l.rx = .inBody ∨ l.rx = .awaitCheck) :
    l.reply = [] ∧ l.restartAwaits = false := by
  obtain ⟨-, awaits, form⟩ := ok
  have none : l.restartAwaits = false := by
    by_contra h
    have closed := awaits (by simpa using h)
    rw [closed] at mid
    obtain h | h | h := mid <;> cases h
  obtain h | h | h := mid <;> rw [h] at form
  · exact ⟨form.2.2, none⟩
  · exact ⟨form.2.2, none⟩
  · exact ⟨form.2.2, none⟩

theorem Kept.frameTimeout (s : State) : ∃ t, execFrameTimeout s = .next t ∧ Kept s t := by
  unfold execFrameTimeout State.cutFrame
  split
  · split
    · rename_i stage
      refine ⟨_, rfl, .settled ((Keeps.setLink s _).trans ((Keeps.post _ _).trans (.latch _ _))) fun ok => ?_⟩
      obtain ⟨reply, awaits⟩ := Link.midFrame ok (Link.stage_some stage)
      refine ⟨ok.1, fun h => ?_, rfl, rfl, reply⟩
      exact absurd (awaits.symm.trans h) Bool.false_ne_true
    · exact ⟨_, rfl, .refl s⟩
  · exact ⟨_, rfl, .refl s⟩

theorem Kept.closedByte (b : Byte) (s : State) : ∃ t, execClosedByte b s = .next t ∧ Kept s t := by
  unfold execClosedByte
  split
  · exact ⟨_, rfl, .settled (.discardBytes s 1) (State.discardBytes_linkOk 1)⟩
  · exact ⟨_, rfl, .refl s⟩

theorem Kept.replyEnd (s : State) : ∃ t, execReplyEnd s = .next t ∧ Kept s t := by
  unfold execReplyEnd
  split
  · rename_i h
    obtain ⟨closed, awaits⟩ := h
    have opened : s.link.ok → { s.link with rx := .hunting, reply := [] }.ok := by
      rintro ⟨count, -, form⟩
      rw [closed] at form
      exact ⟨count, fun h => absurd (awaits.symm.trans h) Bool.false_ne_true, form.1, form.2.1, rfl⟩
    dsimp only
    split
    · exact ⟨_, rfl, .settled (.setLink s _) opened⟩
    · exact ⟨_, rfl, .settled ((Keeps.setLink s _).trans (.post _ _)) opened⟩
  · exact ⟨_, rfl, .refl s⟩

theorem Kept.receivedByte (b : Byte) (s : State) : ∃ t, execReceivedByte b s = .next t ∧ Kept s t := by
  have quiet : ∀ l : Link, (s.link.ok → l.ok) → Kept s (s.setLink l) := fun l ok => ⟨.setLink s l, Or.inr ⟨rfl, rfl⟩, ok⟩
  unfold execReceivedByte
  split
  · rename_i rx
    split
    · refine ⟨_, rfl, quiet _ ?_⟩
      rintro ⟨count, awaits, form⟩
      rw [rx] at form awaits
      exact ⟨count, fun h => (nomatch awaits h), rfl, rfl, form.2.2⟩
    · exact ⟨_, rfl, .refl s⟩
  · rename_i rx
    split
    · rename_i good
      refine ⟨_, rfl, quiet _ fun ok => ?_⟩
      obtain ⟨reply, awaits⟩ := Link.midFrame ok (Or.inl rx)
      refine ⟨ok.1, fun h => absurd (awaits.symm.trans h) Bool.false_ne_true, ⟨_, rfl, good, ?_⟩, rfl, reply⟩
      simp only [lengthOk, Bool.and_eq_true, decide_eq_true_eq] at good
      exact good.1
    · exact ⟨_, rfl, .refl s⟩
  · rename_i f rx frame
    refine ⟨_, rfl, quiet _ fun ok => ?_⟩
    obtain ⟨reply, awaits⟩ := Link.midFrame ok (Or.inr (Or.inl rx))
    obtain ⟨count, -, form⟩ := ok
    rw [rx] at form
    obtain ⟨⟨f', frame', good, short⟩, -, -⟩ := form
    cases frame.symm.trans frame'
    have grown : (f.add b).body.length = f.body.length + 1 := by simp [Frame.add]
    have awaiting : ∀ {P : Prop}, s.link.restartAwaits = true → P := fun h => absurd (awaits.symm.trans h) Bool.false_ne_true
    by_cases full : f.length.toNat ≤ (f.add b).body.length
    · rw [if_pos full]
      exact ⟨count, awaiting, ⟨_, rfl, good, by change (f.add b).body.length = f.length.toNat; omega⟩, rfl, reply⟩
    · rw [if_neg full]
      exact ⟨count, awaiting, ⟨_, rfl, good, by change (f.add b).body.length < f.length.toNat; omega⟩, rfl, reply⟩
  · exact ⟨_, rfl, .refl s⟩

theorem Kept.unknownRequest (kind : Byte) (params : List Byte) (s : State) :
    ∃ t, execUnknownRequest kind params s = .next t ∧ Kept s t := by
  unfold execUnknownRequest
  split
  · exact ⟨_, rfl, .refl s⟩
  · exact Kept.request (.refl s)

/-! ## The commands of the clock -/

theorem State.takeBetween_linkOk {s : State} (between : List Byte) (ok : s.link.ok) : (s.takeBetween between).link.ok := by
  unfold State.takeBetween
  split
  · exact ok
  · split
    · cases ht : s.takeFrame _ _ _ with
      | none => exact ok
      | some t =>
        obtain e | e := State.takeFrame_some ht
        · exact e ▸ Link.closed_ok _ _ _
        · exact e ▸ State.discardBytes_linkOk _ ok
    · exact ok

theorem State.takeGeneratedField_link (s : State) : s.takeGeneratedField.1.link = s.link := by
  unfold State.takeGeneratedField
  split
  · dsimp only
    split
    · exact State.changeLock_link ..
    · rfl
  · rfl

theorem State.fieldStart_linkOk {s : State} (p : Parity) (cause : Cause) (check : List Post) (between : List Byte)
    (ok : s.link.ok) : (s.fieldStart p cause check between).link.ok := by
  have posted : (s.checkPosted check).link = s.link := by
    unfold State.checkPosted
    dsimp only
    split
    · split <;> simp
    · split <;> simp
  rw [State.fieldStart_eq, State.takeField_eq, State.postWork_link]
  change (((((_ : State).takeBetween between).walk _).1).link).ok
  rw [State.walk_link]
  refine State.takeBetween_linkOk between ?_
  rw [State.takeGeneratedField_link]
  change (s.checkPosted check).link.ok
  rw [posted]
  exact ok

theorem State.storeRead_link (s : State) (k : Key) : (s.storeRead k).link = s.link := by
  have lookUp : ∀ u : State, (u.storeLookUp k).1.link = u.link := fun u => by
    obtain ⟨i, -, e | ⟨p, e⟩⟩ | e | ⟨p, e⟩ := u.storeLookUp_cases k <;> rw [e] <;> rfl
  have lineOne : ∀ (u : State) (r : LineOne), (u.takeLineOne r).1.link = u.link := fun u r => by
    unfold State.takeLineOne State.dropLock
    split
    · split
      · rfl
      · dsimp only
        split
        · exact State.changeLock_link ..
        · rfl
    · rfl
  unfold State.storeRead
  dsimp only
  split
  · split
    · rw [State.postAll_link, lineOne, State.setStore_link, lookUp]
      rfl
    · rw [lookUp]
      rfl
  · rfl

theorem State.lineStart_link (s : State) (stamp : Stamp) : (s.lineStart stamp).link = s.link := by
  change ((s.setTiming s.timing.startLine).storeRead s.timing.startLine.key).link = _
  rw [State.storeRead_link]
  rfl

theorem State.wrapEvent_linkOk {s : State} (stamp : Stamp) (between : List Byte) (ok : s.link.ok) :
    (State.wrapEvent stamp between s).link.ok := by
  unfold State.wrapEvent State.naturalField
  rw [State.lineStart_link]
  split
  · exact State.fieldStart_linkOk _ _ _ between ok
  · exact ok

theorem State.testLocked_link (s : State) : s.testLocked.1.link = s.link := by
  obtain ⟨⟨-, -, -, -, -, -, link, -⟩, -⟩ := lockHalfOnly_testLocked s
  exact link

theorem State.completeCheck_linkOk {s : State} (p : Parity) (due : Key) (between : List Byte) (ok : s.link.ok) :
    (s.completeCheck p due between).link.ok := by
  unfold State.completeCheck
  dsimp only
  split
  · refine State.fieldStart_linkOk _ _ _ between ?_
    rw [State.testLocked_link]
    exact ok
  · exact State.fieldStart_linkOk _ _ _ between ok

theorem State.jamEvent_linkOk {s : State} (p : Parity) (midLine : Bool) (due : Key) (stamp : Stamp) (between : List Byte)
    (ok : s.link.ok) : (State.jamEvent p midLine due stamp between s).link.ok := by
  unfold State.jamEvent
  split
  · exact State.completeCheck_linkOk p due between ok
  · rw [State.lineStart_link]
    exact State.completeCheck_linkOk p due between ok

theorem State.restartEvent_linkOk {s : State} (stamp : Stamp) (between : List Byte) (ok : s.link.ok) :
    (State.restartEvent stamp between s).link.ok := by
  unfold State.restartEvent
  dsimp only
  rw [State.lineStart_link]
  exact State.fieldStart_linkOk _ _ _ between ok

theorem State.carryTick_judged (s : State) (index : BitVec 4) (ref : Sample) (event : State → State) :
    ∃ u, s.carryTick index ref event = State.settle u := ⟨_, rfl⟩

/-- A carrying tick keeps what its event keeps. -/
theorem Kept.carryTick {s : State} (index : BitVec 4) (ref : Sample) {event : State → State} (kind : TickKind)
    (made : s.tickKind = kind → Keeps (s.accumulate.setTiming s.accumulate.timing.advancePixel)
      (event (s.accumulate.setTiming s.accumulate.timing.advancePixel)))
    (link : s.link.ok → (event (s.accumulate.setTiming s.accumulate.timing.advancePixel)).link.ok) :
    ∃ t, s.onTick kind (s.carryTick index ref event) = .next t ∧ Kept s t := by
  unfold State.onTick
  split
  · rename_i fits
    obtain ⟨-, -, -, -, -, -, -, -, -, made_link, -⟩ := s.carryTick_keeps index ref event
    refine ⟨_, rfl, .carryTick index ref (made fits), Or.inl (s.carryTick_judged index ref event), fun ok => ?_⟩
    rw [made_link]
    exact link ok
  · exact ⟨_, rfl, .refl s⟩

/-- Of the carrying ticks the restart carry alone comes while the restart is awaited. -/
theorem State.running_of_tickKind {s : State} {kind : TickKind} (h : s.tickKind = kind) (carries : kind ≠ .measurement)
    (other : kind ≠ .restartCarry) : s.timing.restartPending = false := by
  by_contra awaits
  have pending : s.timing.restartPending = true := by simpa using awaits
  unfold State.tickKind at h
  rw [pending] at h
  split at h
  · exact carries h.symm
  · exact other h.symm

theorem Kept.generatedLineStart (index : BitVec 4) (tick : FieldTick) (s : State) :
    ∃ t, execGeneratedLineStart index tick s = .next t ∧ Kept s t := by
  unfold execGeneratedLineStart
  refine Kept.carryTick index tick.ref .lineStart (fun fits => ?_) (fun ok => ?_)
  · have running := State.running_of_tickKind fits nofun nofun
    exact .wrapEvent s.lineStamp tick.between running
  · exact State.wrapEvent_linkOk s.lineStamp tick.between ok

theorem Kept.midLineFieldStart (index : BitVec 4) (tick : FieldTick) (s : State) :
    ∃ t, execMidLineFieldStart index tick s = .next t ∧ Kept s t := by
  unfold execMidLineFieldStart
  refine Kept.carryTick index tick.ref .midLine (fun _ => ?_) (fun ok => ?_)
  · exact .fieldStart _ .two .natural [] tick.between
  · exact State.fieldStart_linkOk .two .natural [] tick.between ok

theorem Kept.jamCheckComplete (index : BitVec 4) (tick : FieldTick) (s : State) :
    ∃ t, execJamCheckComplete index tick s = .next t ∧ Kept s t := by
  unfold execJamCheckComplete
  split
  · exact ⟨_, rfl, .refl s⟩
  · refine Kept.carryTick index tick.ref .jamCheck (fun _ => ?_) (fun ok => ?_)
    · exact .jamEvent _ _ _ _ _ tick.between
    · exact State.jamEvent_linkOk _ _ _ _ tick.between ok

theorem Kept.timingRestartCarry (index : BitVec 4) (tick : FieldTick) (s : State) :
    ∃ t, execTimingRestartCarry index tick s = .next t ∧ Kept s t := by
  unfold execTimingRestartCarry
  refine Kept.carryTick index tick.ref .restartCarry (fun _ => ?_) (fun ok => ?_)
  · exact .restartEvent _ s.lineStamp tick.between
  · exact State.restartEvent_linkOk s.lineStamp tick.between ok

theorem Kept.pixelOnly (index : BitVec 4) (ref : Sample) (kind : TickKind) (s : State) :
    ∃ t, s.onTick kind (s.carryTick index ref id) = .next t ∧ Kept s t :=
  Kept.carryTick index ref kind (fun _ => .refl _) (fun ok => ok)

theorem Kept.measurementTick (ref : Sample) (s : State) : ∃ t, execMeasurementTick ref s = .next t ∧ Kept s t := by
  unfold execMeasurementTick State.onTick
  split
  · refine ⟨_, rfl, ?_, Or.inr ⟨rfl, rfl⟩, id⟩
    exact (Keeps.accumulate s).trans ((Keeps.setStore (s := s.accumulate) (s.store.sampleTick_contentsKept s.stamp ref)).trans
      (.setStamp _ _))
  · exact ⟨_, rfl, .refl s⟩

/-! ## Every command -/

/-- Every command answers a next state, with everything kept that the steps are claimed to keep. -/
theorem exec_kept (c : Instr) (s : State) : ∃ t, exec c s = .next t ∧ Kept s t := by
  cases row : requestShape c with
  | some shape =>
    obtain ⟨params, given⟩ := requestShape_params row
    obtain ⟨handler, taken, answer⟩ := exec_request row given
    rw [taken]
    exact Kept.request (answer.keeps s)
  | none =>
    cases c
    case powerOn => exact Kept.powerOn _ _ s
    case syncPulse => exact Kept.syncPulse _ s
    case overlongPulse => exact Kept.overlongPulse s
    case candidateExpiry => exact Kept.candidateExpiry s
    case wideWindowClose => exact Kept.wideWindowClose s
    case generatedLineStart => exact Kept.generatedLineStart _ _ s
    case midLineFieldStart => exact Kept.midLineFieldStart _ _ s
    case jamCheckComplete => exact Kept.jamCheckComplete _ _ s
    case timingRestartCarry => exact Kept.timingRestartCarry _ _ s
    case lineSyncRelease => exact Kept.pixelOnly _ _ .lineSyncRelease s
    case badLength => exact Kept.badLength _ s
    case badCheck => exact Kept.badCheck _ s
    case frameTimeout => exact Kept.frameTimeout s
    case closedByte b => exact Kept.closedByte b s
    case replyEnd => exact Kept.replyEnd s
    case restartTakesEffect => exact Kept.restartTakesEffect s
    case unknownRequest => exact Kept.unknownRequest _ _ s
    case pulseLeadingEdge => exact Kept.pulseLeadingEdge _ s
    case pixelClock => exact Kept.pixelOnly _ _ .pixel s
    case measurementTick => exact Kept.measurementTick _ s
    case receivedByte => exact Kept.receivedByte _ s
    all_goals cases row

/-! ## Every step -/

theorem step_of_pending {s : State} {c : Instr} {rest : List Instr} (h : s.pending = c :: rest) :
    step s = exec c (s.setPending rest) := by
  unfold step
  rw [h]

theorem step_of_idle {s : State} (h : s.pending = []) : step s = .next s := by
  unfold step
  rw [h]

/-- A step keeps what its command keeps on the state with the queue's rest; an idle step keeps everything. -/
theorem step_kept {s t : State} (h : step s = .next t) : ∃ rest, Kept (s.setPending rest) t := by
  cases queue : s.pending with
  | nil =>
    rw [step_of_idle queue] at h
    cases h
    exact ⟨s.pending, .refl s⟩
  | cons c rest =>
    rw [step_of_pending queue] at h
    obtain ⟨u, e, kept⟩ := exec_kept c (s.setPending rest)
    cases e.symm.trans h
    exact ⟨rest, kept⟩

/-- Settles O1: the definition of a step. -/
theorem stepRunsFrontCommand : Obligations.StepRunsFrontCommand := fun _ _ _ => step_of_pending

/-- Settles O2: what every command keeps contains the queue. -/
theorem everyCommandAnswersNextAndKeepsQueue : Obligations.EveryCommandAnswersNextAndKeepsQueue := by
  refine ⟨fun c s => ?_, fun _ => step_of_idle⟩
  obtain ⟨t, e, kept⟩ := exec_kept c s
  exact ⟨t, e, kept.pending⟩

/-- Settles O6: every command that moves a queue, a condition or a cause ends with the judgement. -/
theorem stepKeepsReportsAndAttnExact : Obligations.StepKeepsReportsAndAttnExact := by
  intro s t ok h
  obtain ⟨rest, kept⟩ := step_kept h
  exact kept.reportsOk ok

/-- Settles O7: a change of lock state hands the store, the mixer and the cause their values. -/
theorem stepKeepsStoreAndMixerWithLockState : Obligations.StepKeepsStoreAndMixerWithLockState := by
  intro s t ok h
  obtain ⟨rest, kept⟩ := step_kept h
  exact kept.lock ok

/-- Settles O8: ACQUIRE and LOCKED are entered from a verdict, which TRACK alone gives, and a loss leaves them. -/
theorem stepKeepsLockedOnlyInTrack : Obligations.StepKeepsLockedOnlyInTrack := by
  intro s t ok h
  obtain ⟨rest, kept⟩ := step_kept h
  exact kept.tracking ok

/-- Settles O9. -/
theorem stepKeepsClassifierRanges : Obligations.StepKeepsClassifierRanges := by
  intro s t ok h
  obtain ⟨rest, kept⟩ := step_kept h
  exact kept.classifier ok

/-- Settles O10. -/
theorem stepKeepsStoreSlots : Obligations.StepKeepsStoreSlots := by
  intro s t ok h
  obtain ⟨rest, kept⟩ := step_kept h
  exact kept.slots ok

/-- Settles O11. -/
theorem stepKeepsLoopRanges : Obligations.StepKeepsLoopRanges := by
  intro s t ok h
  obtain ⟨rest, kept⟩ := step_kept h
  exact kept.loop ok

/-- Settles O12: a line that is the last of its field is followed by a field start, and a field start by line 1. -/
theorem stepKeepsPositionInFrame : Obligations.StepKeepsPositionInFrame := by
  intro s t ok h
  obtain ⟨rest, kept⟩ := step_kept h
  exact kept.position ok

/-- Settles O13. -/
theorem stepKeepsMixerLegalAndWindowsInRange : Obligations.StepKeepsMixerLegalAndWindowsInRange := by
  intro s t h
  obtain ⟨rest, kept⟩ := step_kept h
  exact ⟨kept.mixer, kept.banks⟩

/-- Settles O14: loads are checked when they are stored, and every step of a generator stays within its bounds. -/
theorem stepKeepsFadeLevelsInBounds : Obligations.StepKeepsFadeLevelsInBounds := by
  intro s t ok h
  obtain ⟨rest, kept⟩ := step_kept h
  exact kept.fades ok

/-- Settles O15: a move takes a cue off one list and puts it on one, and the walk moves no cue of FREE. -/
theorem stepKeepsCueListsPartition : Obligations.StepKeepsCueListsPartition := by
  intro s t ok h
  obtain ⟨rest, kept⟩ := step_kept h
  exact kept.cues ok

/-- Settles O16: a reply closes the receiver, its end opens it, and every byte between moves frame and timer together. -/
theorem stepKeepsLinkReception : Obligations.StepKeepsLinkReception := by
  intro s t ok h
  obtain ⟨rest, kept⟩ := step_kept h
  exact kept.link ok

end Sys2Proof.Machine

/-! Power-on, posting, and the control link (spec/09, section 9.2; spec/10): the receiver byte by byte, the faults of a frame, the
closed period, RESTART, and the requests as such. -/

namespace Sys2Proof.Machine

/-- Settles O3, by the definition of the command. -/
theorem powerOnGivesPowerOnStateAndStrapRate : Obligations.PowerOnGivesPowerOnStateAndStrapRate :=
  ⟨fun _ _ _ => rfl, rfl, rfl, rfl, rfl⟩

/-! ## Posting (R154, R155) -/

theorem condBit_getLsbD {n : Nat} (inSet : n < 11) (m : Nat) : (condBit n).getLsbD m = decide (m = n) := by
  have bits : ∀ n < 11, ∀ m < 11, (condBit n).getLsbD m = decide (m = n) := by decide
  by_cases h : m < 11
  · exact bits n inSet m h
  · rw [BitVec.getLsbD_of_ge _ _ (Nat.le_of_not_lt h), eq_comm, decide_eq_false_iff_not]
    omega

theorem condOverrun_lt (q : Fin 4) : condOverrun q < 11 := by
  revert q
  decide

/-- Settles O17: a queue with room takes the report at its tail, a full one latches its overrun. -/
theorem postJoinsTailOrLatchesOverrun : Obligations.PostJoinsTailOrLatchesOverrun := by
  intro s p
  refine ⟨rfl, fun room => s.reports.join_room p.queue _ room, fun full => ?_⟩
  have joined : (s.post p).reports = s.reports.latch (condOverrun p.queue) :=
    s.reports.join_full p.queue _ (Nat.not_lt.mpr full)
  rw [joined]
  refine ⟨rfl, rfl, rfl, rfl, fun n => ?_⟩
  rw [ReportUnit.latch_latched, BitVec.getLsbD_or, condBit_getLsbD (condOverrun_lt _)]
  rfl

/-! ## Bytes one by one (R168, R170) -/

section
variable {s : State} {b : Byte}

theorem exec_receivedByte_start (rx : s.link.rx = .hunting) :
    exec (.receivedByte 0xD4) s = .next (s.setLink { s.link with rx := .awaitLength, frame := none, timer := s.gapFromNow }) := by
  change execReceivedByte 0xD4 s = _
  unfold execReceivedByte
  rw [rx]
  rfl

theorem exec_receivedByte_stray (rx : s.link.rx = .hunting) (stray : b ≠ 0xD4) : exec (.receivedByte b) s = .next s := by
  change execReceivedByte b s = _
  unfold execReceivedByte
  rw [rx]
  exact if_neg stray

theorem exec_receivedByte_length (rx : s.link.rx = .awaitLength) (good : lengthOk b = true) :
    exec (.receivedByte b) s =
      .next (s.setLink { s.link with rx := .inBody, frame := some ⟨b, []⟩, timer := s.gapFromNow }) := by
  change execReceivedByte b s = _
  unfold execReceivedByte
  rw [rx]
  exact if_pos good

theorem exec_receivedByte_body {n : Byte} {body : List Byte} (rx : s.link.rx = .inBody)
    (frame : s.link.frame = some ⟨n, body⟩) :
    exec (.receivedByte b) s = .next (s.setLink { s.link with
      rx := if n.toNat ≤ body.length + 1 then .awaitCheck else .inBody
      frame := some ⟨n, body ++ [b]⟩
      timer := s.gapFromNow }) := by
  change execReceivedByte b s = _
  unfold execReceivedByte
  rw [rx, frame]
  simp only [Frame.add, List.length_append, List.length_singleton]

end

theorem lengthOk_iff (n : Byte) : lengthOk n = true ↔ 1 ≤ n.toNat ∧ n.toNat ≤ 96 := by
  simp [lengthOk]

/-- Settles O22, receive state by receive state. -/
theorem receivedByteFollowsReceiveState : Obligations.ReceivedByteFollowsReceiveState := by
  intro s b
  refine ⟨?_, exec_receivedByte_stray, fun rx low high => ?_, fun n body rx frame short => ?_⟩
  · rintro rx rfl
    exact exec_receivedByte_start rx
  · exact exec_receivedByte_length rx ((lengthOk_iff b).mpr ⟨low, high⟩)
  · have full : n.toNat ≤ body.length + 1 ↔ body.length + 1 = n.toNat := by omega
    rw [exec_receivedByte_body rx frame]
    simp only [full]
    rfl

/-! ## A request taken byte by byte (R168, R169) -/

theorem State.receive_cons (s : State) {b : Byte} {u : State} (h : exec (.receivedByte b) s = .next u) (bs : List Byte) :
    s.receive (b :: bs) = u.receive bs := by
  unfold State.receive
  rw [List.foldl_cons, h]

/-- Body bytes short of the length join the frame, the last of them ending the wait for the body. -/
theorem State.receive_body {s : State} {n : Byte} (bs : List Byte) {body : List Byte} (rx : s.link.rx = .inBody)
    (frame : s.link.frame = some ⟨n, body⟩) (some_left : bs ≠ []) (total : body.length + bs.length = n.toNat) :
    s.receive bs = s.setLink { s.link with rx := .awaitCheck, frame := some ⟨n, body ++ bs⟩, timer := s.gapFromNow } := by
  induction bs generalizing s body with
  | nil => exact absurd rfl some_left
  | cons b bs ih =>
    rw [List.length_cons] at total
    rw [State.receive_cons s (exec_receivedByte_body rx frame)]
    cases bs with
    | nil =>
      rw [List.length_nil] at total
      rw [if_pos (by omega)]
      rfl
    | cons b' bs =>
      rw [List.length_cons] at total
      rw [if_neg (by omega)]
      refine (ih (body := body ++ [b]) rfl rfl (List.cons_ne_nil _ _) ?_).trans ?_
      · simp only [List.length_append, List.length_cons, List.length_nil]
        omega
      · rw [List.append_assoc]
        rfl

/-- The start byte, the length, the kind and the parameters lead to the wait for the check byte. -/
theorem State.receive_frame {s : State} (kind : Byte) {ps : List Byte} (short : ps.length ≤ 95) (rx : s.link.rx = .hunting) :
    s.receive (0xD4 :: BitVec.ofNat 8 (ps.length + 1) :: kind :: ps) =
      s.setLink { s.link with
        rx := .awaitCheck, frame := some ⟨BitVec.ofNat 8 (ps.length + 1), kind :: ps⟩, timer := s.gapFromNow } := by
  have length : (BitVec.ofNat 8 (ps.length + 1)).toNat = ps.length + 1 := by
    rw [BitVec.toNat_ofNat]
    omega
  have good : lengthOk (BitVec.ofNat 8 (ps.length + 1)) = true := by
    rw [lengthOk_iff, length]
    omega
  rw [State.receive_cons s (exec_receivedByte_start rx), State.receive_cons _ (exec_receivedByte_length rfl good)]
  rw [State.receive_body (kind :: ps) (body := []) rfl rfl (List.cons_ne_nil _ _)]
  · rfl
  · rw [length, List.length_cons, List.length_nil]
    omega

/-- Settles O23: the bytes leave all but the link as it stood, and no answer depends on where the receiver stands. -/
theorem bytewiseFrameEqualsWholeFrame : Obligations.BytewiseFrameEqualsWholeFrame := by
  intro s c kind shape ps row given short rx
  obtain ⟨handler, taken, answer⟩ := exec_request row given
  dsimp only
  rw [State.receive_frame kind short rx]
  have fits : ps.length ≤ paramRoom := short
  have whole : s.link.completes kind ps = true := by
    unfold Link.completes
    rw [rx]
  have checked : Link.completes { s.link with
      rx := .awaitCheck, frame := some ⟨BitVec.ofNat 8 (ps.length + 1), kind :: ps⟩, timer := s.gapFromNow } kind ps = true :=
    decide_eq_true rfl
  refine ⟨rfl, ⟨fits, checked⟩, rfl, ?_⟩
  rw [taken, taken, State.request_taken _ handler fits checked, State.request_taken _ handler fits whole]
  have alike := answer.reception s { s.link with
    rx := .awaitCheck, frame := some ⟨BitVec.ofNat 8 (ps.length + 1), kind :: ps⟩, timer := s.gapFromNow } kind rfl rfl
  exact congrArg (fun t : State => Host.Outcome.next t.settle) alike

/-! ## Faults of a frame (R168 to R170, R178) -/

theorem State.replied_noResults (s : State) (kind : Byte) (status : Status) :
    (s.close kind [kind, status.code]).settle = s.replied kind status [] := rfl

/-- The timer is over 25 ms after the last byte. -/
theorem State.gapIsOver_of_timer {s : State} {last : Stamp} (timer : s.link.timer = some (last + 9600000)) :
    s.gapIsOver = true ↔ 9600000 ≤ (s.stamp - last).toNat :=
  (s.gapIsOver_iff timer).trans BitVec.le_def

theorem exec_frameTimeout_over {s : State} (late : s.gapIsOver = true) : exec .frameTimeout s = .next s.cutFrame := by
  change execFrameTimeout s = _
  unfold execFrameTimeout
  rw [if_pos late]

theorem State.cutFrame_of_stage {s : State} {stage received : Nat} (h : s.link.stage = some (stage, received)) :
    s.cutFrame = (((s.setLink { s.link with rx := .hunting, frame := none, timer := none }).post
      ⟨3, .frameTimeout, BitVec.ofNat 8 stage, BitVec.ofNat 16 received⟩).latch 6).settle := by
  unfold State.cutFrame
  rw [h]
  rfl

section
variable {l : Link}

theorem Link.stage_awaitLength (rx : l.rx = .awaitLength) : l.stage = some (1, 0) := by
  unfold Link.stage
  rw [rx]

theorem Link.stage_inBody {f : Frame} (rx : l.rx = .inBody) (frame : l.frame = some f) :
    l.stage = some (2, 1 + f.body.length) := by
  unfold Link.stage
  rw [rx, frame]

theorem Link.stage_awaitCheck {f : Frame} (rx : l.rx = .awaitCheck) (frame : l.frame = some f) :
    l.stage = some (3, 1 + f.body.length) := by
  unfold Link.stage
  rw [rx, frame]

end

theorem exec_badLength {s : State} {n : Byte} (rx : s.link.rx = .awaitLength) (bad : n.toNat = 0 ∨ 96 < n.toNat) :
    exec (.badLength n) s = .next ((s.post ⟨3, .badFrame, 1, BitVec.ofNat 16 n.toNat⟩).replied 0 .badFrame []) := by
  have refused : lengthOk n = false := by
    rw [← Bool.not_eq_true, lengthOk_iff]
    omega
  change execBadLength n s = _
  unfold execBadLength
  rw [if_pos ⟨rx, refused⟩]
  rfl

theorem exec_badCheck {s : State} {n kind check : Byte} {ps : List Byte} (rx : s.link.rx = .awaitCheck)
    (frame : s.link.frame = some ⟨n, kind :: ps⟩) (bad : (kind :: ps).foldl (· + ·) n + check ≠ 0) :
    exec (.badCheck check) s = .next
      ((s.post ⟨3, .badFrame, 2, BitVec.ofNat 16 (256 * kind.toNat + n.toNat)⟩).replied kind .badFrame []) := by
  change execBadCheck check s = _
  unfold execBadCheck
  rw [rx, frame]
  exact if_neg bad

/-- Settles O24, fault by fault; the timer's expiry is judged by the stamp counter. -/
theorem frameFaultsAreReported : Obligations.FrameFaultsAreReported := by
  refine ⟨fun s n => exec_badLength, fun s n kind check ps => exec_badCheck, fun s last timer => ?_, fun s timer => ?_⟩
  · dsimp only
    refine ⟨fun late => ?_, fun soon => ?_⟩
    · rw [exec_frameTimeout_over ((State.gapIsOver_of_timer timer).mpr late)]
      refine ⟨fun rx => ?_, fun f rx frame => ?_, fun f rx frame => ?_⟩
      · rw [State.cutFrame_of_stage (Link.stage_awaitLength rx)]
        rfl
      · rw [State.cutFrame_of_stage (Link.stage_inBody rx frame)]
        rfl
      · rw [State.cutFrame_of_stage (Link.stage_awaitCheck rx frame)]
        rfl
    · refine execFrameTimeout_early s ?_
      rw [← Bool.not_eq_true, State.gapIsOver_of_timer timer]
      exact Nat.not_le.mpr soon
  · exact execFrameTimeout_early s (s.gapIsOver_none timer)

/-! ## The closed period (R171) -/

theorem State.discardBytes_settle (s : State) (n : Nat) :
    let counted := s.setLink { s.link with closedCount := min 65535 (s.link.closedCount + n) }
    (s.discardBytes n).settle = if s.link.closedCount = 0 then (counted.latch 6).settle else counted.settle := by
  unfold State.discardBytes
  dsimp only
  split <;> rfl

theorem exec_replyEnd {s : State} (closed : s.link.rx = .closed) (awaits : s.link.restartAwaits = false) :
    let opened := s.setLink { s.link with rx := .hunting, reply := [] }
    exec .replyEnd s = if s.link.closedCount = 0 then .next opened.settle
      else .next (opened.post ⟨3, .overlap, BitVec.ofNat 8 s.link.closedKind.toNat, BitVec.ofNat 16 s.link.closedCount⟩).settle := by
  change execReplyEnd s = _
  unfold execReplyEnd
  rw [if_pos ⟨closed, awaits⟩]
  rfl

/-- Settles O25: bytes of a closed period are counted, one by one or a frame at a time, and its end reports them. -/
theorem closedPeriodDiscardsCountsAndReports : Obligations.ClosedPeriodDiscardsCountsAndReports := by
  refine ⟨⟨fun s b closed => ?_, fun s closed awaits => ?_⟩, fun s c kind shape ps row given short closed => ?_⟩
  · have discarded : exec (.closedByte b) s = .next (s.discardBytes 1).settle := if_pos closed
    rw [discarded, State.discardBytes_settle]
  · dsimp only
    rw [exec_replyEnd closed awaits, BitVec.ofNat_toNat, BitVec.setWidth_eq]
    exact ⟨fun none => if_pos none, fun some => if_neg (Nat.ne_of_gt some)⟩
  · obtain ⟨handler, taken, -⟩ := exec_request row given
    dsimp only
    rw [taken, s.request_closed handler short closed, State.discardBytes_settle]

/-! ## RESTART (R176) -/

/-- Settles O26: the reply is formed before the reset, which the end of the reply brings. -/
theorem restartAnswersThenResets : Obligations.RestartAnswersThenResets := by
  refine ⟨fun s taken => s.request_okay (answerRestart []) taken rfl, fun s closed awaits => ?_⟩
  exact if_pos ⟨closed, awaits⟩

/-! ## Refusals (R172, R173) -/

theorem State.request_refused (s : State) {kind : Byte} {params : List Byte} {handler : State → Answer} {status : Status}
    (taken : s.takes kind params) (answer : handler s = s.refuse status) :
    s.request kind params handler = .next (s.replied kind status []) := by
  obtain ⟨fits, completes⟩ := taken
  rw [s.request_taken handler fits completes, answer]
  rfl

/-- Settles O27: every answer is an acceptance or a refusal that changes nothing, and a wrong length is refused. -/
theorem refusedRequestsChangeNothing : Obligations.RefusedRequestsChangeNothing := by
  refine ⟨⟨fun s kind ps unknown taken => ?_, fun s c kind n ps row given wrong taken => ?_⟩,
    fun s c kind shape ps row given taken => ?_⟩
  · have asked : exec (.unknownRequest kind ps) s = s.request kind ps fun t => t.refuse .unknown :=
      if_neg (by rw [unknown]; exact Bool.false_ne_true)
    rw [asked]
    exact s.request_refused taken rfl
  · obtain ⟨handler, asked, answer⟩ := exec_request row given
    rw [asked]
    exact s.request_refused taken (answer.short s rfl wrong)
  · obtain ⟨handler, asked, answer⟩ := exec_request row given
    obtain ⟨fits, completes⟩ := taken
    refine ⟨(handler s).state, (handler s).status, (handler s).results, ?_, answer.plain s⟩
    rw [asked, s.request_taken handler fits completes]
    rfl

end Sys2Proof.Machine

/-! Posts in their queues: what a list of posts and the work of several units leave of each queue (R154, R155). -/

namespace Sys2Proof.Machine

/-! ## A list of posts -/

theorem State.post_enables (s : State) (p : Post) :
    (s.post p).reports.condEnables = s.reports.condEnables ∧ (s.post p).reports.queueEnables = s.reports.queueEnables ∧
      (s.post p).reports.attn = s.reports.attn := by
  by_cases room : (s.reports.queues[p.queue]).length < queueRoom
  · have joined : (s.post p).reports = _ := s.reports.join_room p.queue _ room
    rw [joined]
    exact ⟨rfl, rfl, rfl⟩
  · have joined : (s.post p).reports = _ := s.reports.join_full p.queue _ room
    rw [joined]
    exact ⟨rfl, rfl, rfl⟩

/-- Posts change no enable, and the judgement alone changes ATTN. -/
theorem State.postAll_enables (s : State) (ps : List Post) :
    (s.postAll ps).reports.condEnables = s.reports.condEnables ∧
      (s.postAll ps).reports.queueEnables = s.reports.queueEnables ∧ (s.postAll ps).reports.attn = s.reports.attn := by
  induction ps generalizing s with
  | nil => exact ⟨rfl, rfl, rfl⟩
  | cons p ps ih =>
    obtain ⟨conds, queues, attn⟩ := ih (s.post p)
    obtain ⟨conds', queues', attn'⟩ := s.post_enables p
    exact ⟨conds.trans conds', queues.trans queues', attn.trans attn'⟩

theorem State.post_queue_ne (s : State) {p : Post} {q : Fin 4} (h : p.queue ≠ q) :
    (s.post p).reports.queues[q] = s.reports.queues[q] := by
  have ne : (p.queue : Nat) ≠ q := fun e => h (Fin.ext e)
  by_cases room : (s.reports.queues[p.queue]).length < queueRoom
  · have joined : (s.post p).reports = _ := s.reports.join_room p.queue _ room
    rw [joined]
    simp only [Fin.getElem_fin, Vector.getElem_set_ne _ _ ne]
  · have joined : (s.post p).reports = _ := s.reports.join_full p.queue _ room
    rw [joined]
    rfl

/-- A queue that no post names keeps its reports, with or without room. -/
theorem State.postAll_queue_ne (s : State) (ps : List Post) {q : Fin 4} (h : ∀ p ∈ ps, p.queue ≠ q) :
    (s.postAll ps).reports.queues[q] = s.reports.queues[q] := by
  induction ps generalizing s with
  | nil => rfl
  | cons p ps ih =>
    have later := ih (s.post p) fun r hr => h r (List.mem_cons_of_mem p hr)
    exact later.trans (s.post_queue_ne (h p List.mem_cons_self))

/-- The posts of a list that name a queue. -/
def postsTo (q : Fin 4) (ps : List Post) : List Post := ps.filter fun p => p.queue = q

theorem State.postAll_recordsOf (s : State) (ps : List Post) {q : Fin 4}
    (room : (s.reports.queues[q]).length + (postsTo q ps).length ≤ 24) :
    (s.postAll ps).reports.queues[q] = s.reports.queues[q] ++ recordsOf s.timing.count (postsTo q ps) :=
  s.postAll_queue ps q room

theorem postsTo_append (q : Fin 4) (ps qs : List Post) : postsTo q (ps ++ qs) = postsTo q ps ++ postsTo q qs :=
  List.filter_append ..

theorem postsTo_all {q : Fin 4} {ps : List Post} (h : ∀ p ∈ ps, p.queue = q) : postsTo q ps = ps :=
  List.filter_eq_self.mpr fun p hp => decide_eq_true (h p hp)

theorem postsTo_none {q : Fin 4} {ps : List Post} (h : ∀ p ∈ ps, p.queue ≠ q) : postsTo q ps = [] :=
  List.filter_eq_nil_iff.mpr fun p hp => by simpa using h p hp

/-! ## The work of several units -/

/-- The posts of several pieces of work in the order in which they are made. -/
def State.workPosts (s : State) (ahead : Option Work) (ws : List (Work × List Post)) : List Post :=
  (arrangeWork s.draw ahead ws).flatMap (·.2)

theorem State.postAll_append (s : State) (ps qs : List Post) : s.postAll (ps ++ qs) = (s.postAll ps).postAll qs :=
  List.foldl_append ..

theorem State.foldl_postAll (s : State) (ws : List (Work × List Post)) :
    ws.foldl (fun t w => t.postAll w.2) s = s.postAll (ws.flatMap (·.2)) := by
  induction ws generalizing s with
  | nil => rfl
  | cons w ws ih => rw [List.foldl_cons, List.flatMap_cons, State.postAll_append, ih]

theorem State.postWork_eq_postAll (s : State) (ahead : Option Work) (ws : List (Work × List Post)) :
    s.postWork ahead ws = (s.postAll (s.workPosts ahead ws)).setDraw (s.draw + 1) := by
  unfold State.postWork
  rw [State.foldl_postAll]
  rfl

/-- Work that posts nothing adds nothing. -/
theorem flatMap_filter_nonempty (ws : List (Work × List Post)) :
    (ws.filter fun w => !w.2.isEmpty).flatMap (·.2) = ws.flatMap (·.2) := by
  induction ws with
  | nil => rfl
  | cons w ws ih =>
    by_cases h : w.2 = []
    · rw [List.filter_cons_of_neg (by simp [h]), ih, List.flatMap_cons, h, List.nil_append]
    · rw [List.filter_cons_of_pos (by simpa using h), List.flatMap_cons, List.flatMap_cons, ih]

/-- Whatever the order, the posts are those of the pieces of work. -/
theorem State.workPosts_perm (s : State) (ahead : Option Work) (ws : List (Work × List Post)) :
    (s.workPosts ahead ws).Perm (ws.flatMap (·.2)) := by
  rw [← flatMap_filter_nonempty ws]
  exact (arrangeWork_perm s.draw ahead ws).flatMap_right _

theorem arrangeWork_pair (draw : Nat) (ahead : Option Work) (a b : Work × List Post) :
    (arrangeWork draw ahead [a, b]).flatMap (·.2) = a.2 ++ b.2 ∨ (arrangeWork draw ahead [a, b]).flatMap (·.2) = b.2 ++ a.2 := by
  unfold arrangeWork
  by_cases ha : a.2 = []
  · refine Or.inl ?_
    by_cases hb : b.2 = [] <;> simp [ha, hb, insertWork]
  · by_cases hb : b.2 = []
    · exact Or.inl (by simp [ha, hb, insertWork])
    · by_cases first : workBefore draw ahead a.1 b.1 = true
      · exact Or.inl (by simp [ha, hb, insertWork, first])
      · exact Or.inr (by simp [ha, hb, insertWork, first])

/-- Two units post in one order or the other (log 13). -/
theorem State.workPosts_pair (s : State) (ahead : Option Work) (a b : Work × List Post) :
    s.workPosts ahead [a, b] = a.2 ++ b.2 ∨ s.workPosts ahead [a, b] = b.2 ++ a.2 := arrangeWork_pair ..

theorem State.postWork_enables (s : State) (ahead : Option Work) (ws : List (Work × List Post)) :
    (s.postWork ahead ws).reports.condEnables = s.reports.condEnables ∧
      (s.postWork ahead ws).reports.queueEnables = s.reports.queueEnables ∧
      (s.postWork ahead ws).reports.attn = s.reports.attn := by
  rw [State.postWork_eq_postAll]
  exact s.postAll_enables _

theorem State.postWork_queue_ne (s : State) (ahead : Option Work) {ws : List (Work × List Post)} {q : Fin 4}
    (h : ∀ w ∈ ws, ∀ p ∈ w.2, p.queue ≠ q) : (s.postWork ahead ws).reports.queues[q] = s.reports.queues[q] := by
  rw [State.postWork_eq_postAll]
  refine s.postAll_queue_ne _ fun p hp => ?_
  obtain ⟨w, hw, hpw⟩ := List.mem_flatMap.mp ((s.workPosts_perm ahead ws).mem_iff.mp hp)
  exact h w hw p hpw

theorem State.postWork_recordsOf (s : State) (ahead : Option Work) (ws : List (Work × List Post)) {q : Fin 4}
    (room : (s.reports.queues[q]).length + (postsTo q (s.workPosts ahead ws)).length ≤ 24) :
    (s.postWork ahead ws).reports.queues[q] =
      s.reports.queues[q] ++ recordsOf s.timing.count (postsTo q (s.workPosts ahead ws)) := by
  rw [State.postWork_eq_postAll]
  exact s.postAll_recordsOf _ room

/-! ## The reports of a change of lock state (R35, R49) -/

theorem State.changeLock_changePosts (s : State) (new : LockState) (setsK : Bool) (e : Engine) :
    (s.changeLock new setsK e).2 = changePosts s.engine.lock new setsK s.engine.atLimit := by
  rw [State.changeLock_posts]
  unfold changePosts
  congr 1
  cases setsK <;> cases s.engine.atLimit <;> rfl

theorem changePosts_queue {old new : LockState} {setsK atLimit : Bool} : ∀ p ∈ changePosts old new setsK atLimit, p.queue = 0 := by
  unfold changePosts
  intro p hp
  obtain h | h := List.mem_append.mp hp
  · split at h
    · cases h
    · cases List.mem_singleton.mp h
      rfl
  · split at h
    · cases List.mem_singleton.mp h
      rfl
    · cases h

theorem changePosts_length (old new : LockState) (setsK atLimit : Bool) : (changePosts old new setsK atLimit).length ≤ 2 := by
  unfold changePosts
  rw [List.length_append]
  split <;> split <;> simp

theorem Store.handed_goneIdle (st : Store) {new : LockState} (idle : new.storeActive = false) : st.handed new = st.goneIdle := by
  unfold Store.handed
  rw [idle]
  rfl

theorem Store.handed_goneActive (st : Store) {new : LockState} (active : new.storeActive = true) (stood : st.active = false) :
    st.handed new = st.goneActive := by
  unfold Store.handed
  rw [active, stood]
  rfl

end Sys2Proof.Machine

/-! The settings of the lock half (spec/01, section 1.6; spec/02, section 2.5; spec/03; spec/04, section 4.7). -/

namespace Sys2Proof.Machine

/-! ## Codes outside their enumerations (R174) -/

theorem flagOf_none {v : Nat} (h : 2 ≤ v) : flagOf v = none :=
  match v, h with | _ + 2, _ => rfl
theorem standardOf_none {v : Nat} (h : 2 ≤ v) : standardOf v = none :=
  match v, h with | _ + 2, _ => rfl
theorem rasterModeOf_none {v : Nat} (h : 2 ≤ v) : rasterModeOf v = none :=
  match v, h with | _ + 2, _ => rfl
theorem profileOf_none {v : Nat} (h : 2 ≤ v) : profileOf v = none :=
  match v, h with | _ + 2, _ => rfl
theorem bankOf_none {v : Nat} (h : 2 ≤ v) : bankOf v = none :=
  match v, h with | _ + 2, _ => rfl
theorem mixModeOf_none {v : Nat} (h : 2 ≤ v) : mixModeOf v = none :=
  match v, h with | _ + 2, _ => rfl
theorem colourClassOf_none {v : Nat} (h : 3 ≤ v) : colourClassOf v = none :=
  match v, h with | _ + 3, _ => rfl
theorem lossPolicyOf_none {v : Nat} (h : 3 ≤ v) : lossPolicyOf v = none :=
  match v, h with | _ + 3, _ => rfl
theorem fadeKindOf_none {v : Nat} (h : 3 ≤ v) : fadeKindOf v = none :=
  match v, h with | _ + 3, _ => rfl
theorem cueListOf_none {v : Nat} (h : 4 ≤ v) : cueListOf v = none :=
  match v, h with | _ + 4, _ => rfl

/-! ## Parameter fields (R173) -/

theorem bytesOf_of_toNat {v : Byte} {n : Nat} (h : v.toNat = n) : bytesOf 1 n = [v] := by
  rw [← h, bytesOf_one]

theorem bytesOf_three (a b c : Byte) : bytesOf 3 (65536 * a.toNat + 256 * b.toNat + c.toNat) = [a, b, c] := by
  have la := a.isLt
  have lb := b.isLt
  have lc := c.isLt
  simp only [bytesOf, List.nil_append, List.cons_append, List.cons.injEq, and_true]
  refine ⟨?_, ?_, ?_⟩ <;> apply BitVec.eq_of_toNat_eq <;> rw [BitVec.toNat_ofNat] <;> omega

section
variable (a b c d e f g h : Byte)

theorem fields_ones_four : fields [1, 1, 1, 1] [a, b, c, d] = some [a.toNat, b.toNat, c.toNat, d.toNat] := by
  simp [fields, beNat_one]

theorem fields_twos_four : fields [2, 2, 2, 2] [a, b, c, d, e, f, g, h] =
    some [256 * a.toNat + b.toNat, 256 * c.toNat + d.toNat, 256 * e.toNat + f.toNat, 256 * g.toNat + h.toNat] := by
  simp [fields, beNat_two]

theorem fields_one_two : fields [1, 2] [a, b, c] = some [a.toNat, 256 * b.toNat + c.toNat] := by
  simp [fields, beNat_one, beNat_two]

theorem fields_two_two_one_one : fields [2, 2, 1, 1] [a, b, c, d, e, f] =
    some [256 * a.toNat + b.toNat, 256 * c.toNat + d.toNat, e.toNat, f.toNat] := by
  simp [fields, beNat_one, beNat_two]

theorem fields_two_one_one : fields [2, 1, 1] [a, b, c, d] = some [256 * a.toNat + b.toNat, c.toNat, d.toNat] := by
  simp [fields, beNat_one, beNat_two]

theorem fields_three : fields [3] [a, b, c] = some [65536 * a.toNat + 256 * b.toNat + c.toNat] := by
  simp [fields, beNat_three]

end

/-! ## The loop (R36 to R38) -/

theorem Engine.setProfile_broadcast (e : Engine) : e.setProfile .broadcast =
    { e with profile := .broadcast, s := if e.profile = .broadcast then e.s else 0 } := by
  unfold Engine.setProfile
  split
  · rename_i same
    rw [← same]
  · rfl

theorem Engine.setProfile_tape (e : Engine) : e.setProfile .tape = { e with profile := .tape } := by
  unfold Engine.setProfile
  split
  · rename_i same
    rw [← same]
  · rfl

theorem answerSetProfile_of_code (s : State) {v : Byte} {p : Profile} (h : v.toNat = p.code) :
    answerSetProfile [v] s = (s.setEngine (s.engine.setProfile p)).okay [v] := by
  rw [answerSetProfile, fields_one, h]
  simp only [profileOf_code, bytesOf_of_toNat h]

theorem answerSetProfile_bad (s : State) {v : Byte} (h : 2 ≤ v.toNat) : answerSetProfile [v] s = s.refuse .badParam := by
  rw [answerSetProfile, fields_one]
  simp only [profileOf_none h]

theorem Gains.pair_setPair (g : Gains) (p p' : Profile) (l l' : Bool) (x : GainPair) :
    (g.setPair p l x).pair p' l' = if p' = p ∧ l' = l then x else g.pair p' l' := by
  cases p <;> cases p' <;> cases l <;> cases l' <;> rfl

theorem answerSetGains_of_codes (s : State) {p ph : Byte} (a b : Byte) {profile : Profile} {locked : Bool}
    (hp : p.toNat = profile.code) (hl : ph.toNat = boolCode locked) :
    answerSetGains [p, ph, a, b] s =
      (s.setEngine { s.engine with
        gains := s.engine.gains.setPair profile locked ⟨clampNat 0 15 a.toNat, clampNat 0 23 b.toNat⟩ }).okay
        [BitVec.ofNat 8 (clampNat 0 15 a.toNat), BitVec.ofNat 8 (clampNat 0 23 b.toNat)] := by
  rw [answerSetGains, fields_ones_four, hp, hl]
  simp only [profileOf_code, phaseOf, flagOf_boolCode]
  rfl

theorem answerSetGains_bad (s : State) {p ph : Byte} (a b : Byte) (h : 2 ≤ p.toNat ∨ 2 ≤ ph.toNat) :
    answerSetGains [p, ph, a, b] s = s.refuse .badParam := by
  rw [answerSetGains, fields_ones_four]
  obtain high | high := h
  · simp only [profileOf_none high]
  · simp only [phaseOf, flagOf_none high]
    cases profileOf p.toNat <;> rfl

theorem answerSetAdvance_eq (s : State) (a b : Byte) :
    let v := clampInt (-8192) 8191 (BitVec.ofNat 16 (256 * a.toNat + b.toNat)).toInt
    answerSetAdvance [a, b] s = (s.setEngine { s.engine with a := v }).okay (bytesOfInt 2 v) := by
  rw [answerSetAdvance, fields_two]
  rfl

/-- Settles O28, request by request. -/
theorem loopSettingsAreStored : Obligations.LoopSettingsAreStored := by
  refine ⟨fun s v taken => ⟨?_, ?_, fun bad => ?_⟩, fun s p ph a b taken => ⟨fun profile locked hp hl => ?_, fun bad => ?_⟩,
    fun s a b taken => s.request_okay _ taken (answerSetAdvance_eq s a b)⟩
  · rintro rfl
    have answer := answerSetProfile_of_code s (v := 0) (p := .broadcast) rfl
    rw [Engine.setProfile_broadcast] at answer
    exact s.request_okay _ taken answer
  · rintro rfl
    have answer := answerSetProfile_of_code s (v := 1) (p := .tape) rfl
    rw [Engine.setProfile_tape] at answer
    exact s.request_okay _ taken answer
  · exact s.request_refused taken (answerSetProfile_bad s bad)
  · exact ⟨_, s.request_okay _ taken (answerSetGains_of_codes s a b hp hl), fun p' l' => Gains.pair_setPair ..⟩
  · exact s.request_refused taken (answerSetGains_bad s a b bad)

/-! ## Lock, classifier and store parameters (R19, R45, R57, R58, R80, R81) -/

theorem answerSetLockWindows_eq (s : State) (a b c d e f g h : Byte) :
    let wLock := clampNat 1 1023 (256 * a.toNat + b.toNat)
    let wDrop := clampNat wLock 4095 (256 * c.toNat + d.toNat)
    let nLock := clampNat 1 1023 (256 * e.toNat + f.toNat)
    let nUnlock := clampNat 1 255 (256 * g.toNat + h.toNat)
    answerSetLockWindows [a, b, c, d, e, f, g, h] s =
      (s.setEngine { s.engine with wLock := wLock, wDrop := wDrop, nLock := nLock, nUnlock := nUnlock }).okay
        (bytesOf 2 wLock ++ bytesOf 2 wDrop ++ bytesOf 2 nLock ++ bytesOf 2 nUnlock) := by
  rw [answerSetLockWindows, fields_twos_four]

/-- Two bytes hold no number above 65,535, so that the clamp of HMAX changes nothing. -/
theorem answerSetQualify_eq (s : State) (a b c : Byte) :
    answerSetQualify [a, b, c] s =
      (s.setEngine { s.engine with q := clampNat 1 255 a.toNat, hmax := 256 * b.toNat + c.toNat }).okay
        (bytesOf 1 (clampNat 1 255 a.toNat) ++ bytesOf 2 (256 * b.toNat + c.toNat)) := by
  have lb := b.isLt
  have lc := c.isLt
  rw [answerSetQualify, fields_one_two]
  simp only [clampNat_of_mem (Nat.zero_le _) (show 256 * b.toNat + c.toNat ≤ 65535 by omega)]

theorem answerSetSyncWindows_eq (s : State) (a b c d e f : Byte) :
    let wn := clampNat 8 128 (256 * a.toNat + b.toNat)
    let ww := clampNat wn 768 (256 * c.toNat + d.toNat)
    let nloss := clampNat 4 63 e.toNat
    let bad := clampNat 0 31 f.toNat
    answerSetSyncWindows [a, b, c, d, e, f] s =
      (s.setClassifier { s.classifier with wn := wn, ww := ww, nloss := nloss, b := bad }).okay
        (bytesOf 2 wn ++ bytesOf 2 ww ++ bytesOf 1 nloss ++ bytesOf 1 bad) := by
  rw [answerSetSyncWindows, fields_two_two_one_one]

theorem answerSetStoreDelay_eq (s : State) (a : Byte) :
    answerSetStoreDelay [a] s = (s.setStore { s.store with d := clampNat 2 6 a.toNat }).okay
      [BitVec.ofNat 8 (clampNat 2 6 a.toNat)] := by
  rw [answerSetStoreDelay, fields_one]
  rfl

theorem signed_one (a : Byte) : signed 1 a.toNat = a.toInt := by
  unfold signed
  rw [BitVec.ofNat_toNat]
  rfl

theorem answerSetVideoTrim_eq (s : State) (a : Byte) :
    answerSetVideoTrim [a] s = (s.setStore { s.store with h := clampInt (-32) 31 a.toInt }).okay
      (bytesOfInt 1 (clampInt (-32) 31 a.toInt)) := by
  rw [answerSetVideoTrim, fields_one]
  simp only [signed_one]

theorem answerSetFieldCount_eq (s : State) (a b c : Byte) :
    answerSetFieldCount [a, b, c] s =
      (s.setTiming { s.timing with load := some (BitVec.ofNat 24 (65536 * a.toNat + 256 * b.toNat + c.toNat)) }).okay
        [a, b, c] := by
  rw [answerSetFieldCount, fields_three]
  simp only [bytesOf_three]

/-- Settles O29, request by request. -/
theorem lockAndStoreParametersAreStored : Obligations.LockAndStoreParametersAreStored := by
  refine ⟨⟨fun s a b c d e f g h taken => ?_, fun s a b c taken => ?_, fun s a b c d e f taken => ?_, fun s a taken => ?_,
    fun s a taken => ?_⟩, fun s a b c taken => ?_⟩
  · exact s.request_okay _ taken (answerSetLockWindows_eq s a b c d e f g h)
  · exact s.request_okay _ taken (answerSetQualify_eq s a b c)
  · exact s.request_okay _ taken (answerSetSyncWindows_eq s a b c d e f)
  · exact s.request_okay _ taken (answerSetStoreDelay_eq s a)
  · exact s.request_okay _ taken (answerSetVideoTrim_eq s a)
  · exact s.request_okay _ taken (answerSetFieldCount_eq s a b c)

/-! ## Standard and raster (R20, R63, R64) -/

/-- The classifier's reports of a timing restart. -/
theorem Classifier.restart_posts (c : Classifier) (std : Standard) (changed : Bool) :
    (c.restart std changed).2 = if changed = true ∧ c.mismatch = true then [⟨0, .standardOk, 0, 0⟩] else [] := by
  unfold Classifier.restart
  cases changed <;> cases c.mismatch <;> rfl

/-- The two units' reports of a timing restart, in one order or the other. -/
theorem State.timingRestart_queue (s : State) (changed : Bool) (room : (s.reports.queues[(0 : Fin 4)]).length ≤ 21) :
    let engine := recordsOf s.timing.count (changePosts s.engine.lock .free true s.engine.atLimit)
    let classifier := recordsOf s.timing.count
      (if changed = true ∧ s.classifier.mismatch = true then [⟨0, .standardOk, 0, 0⟩] else [])
    (s.timingRestart changed).reports.queues[(0 : Fin 4)] = s.reports.queues[(0 : Fin 4)] ++ (engine ++ classifier) ∨
    (s.timingRestart changed).reports.queues[(0 : Fin 4)] = s.reports.queues[(0 : Fin 4)] ++ (classifier ++ engine) := by
  have posts := s.changeLock_changePosts .free true (s.engine.restarted s.timing.standard s.timing.lpix)
  have timing := s.engineRestart_timing
  unfold State.timingRestart
  rw [State.engineRestart_eq] at timing ⊢
  have reports := State.changeLock_reports s .free true (s.engine.restarted s.timing.standard s.timing.lpix)
  have classifier := State.changeLock_classifier s .free true (s.engine.restarted s.timing.standard s.timing.lpix)
  generalize s.changeLock .free true (s.engine.restarted s.timing.standard s.timing.lpix) = e at posts timing reports classifier
  dsimp only
  rw [Classifier.restart_posts, posts, classifier]
  generalize standardOk : (if changed = true ∧ s.classifier.mismatch = true then [⟨0, .standardOk, 0, 0⟩] else [] : List Post) = os
  have toLock : ∀ p ∈ os, p.queue = 0 := by
    rw [← standardOk]
    intro p hp
    split at hp
    · cases List.mem_singleton.mp hp
      rfl
    · cases hp
  have short : os.length ≤ 1 := by
    rw [← standardOk]
    split <;> simp
  have changed' := changePosts_length s.engine.lock .free true s.engine.atLimit
  have toLock' := changePosts_queue (old := s.engine.lock) (new := .free) (setsK := true) (atLimit := s.engine.atLimit)
  generalize changePosts s.engine.lock .free true s.engine.atLimit = es at changed' toLock'
  generalize hu : (e.1.setClassifier _).setTiming _ = u
  have queues : u.reports.queues[(0 : Fin 4)] = s.reports.queues[(0 : Fin 4)] := by
    rw [← hu, State.setTiming_reports, State.setClassifier_reports, reports]
  have count : u.timing.count = s.timing.count := by
    rw [← hu, State.setTiming_timing, timing]
  have posted := fun room' => u.postWork_recordsOf none [(.engine, es), (.classifier, os)] (q := 0) room'
  rw [queues, count] at posted
  obtain order | order := u.workPosts_pair none (.engine, es) (.classifier, os) <;> rw [order] at posted <;>
    rw [postsTo_append, postsTo_all toLock, postsTo_all toLock', List.length_append] at posted <;>
    rw [posted (by omega)] <;> unfold recordsOf <;> rw [List.map_append]
  · exact Or.inl rfl
  · exact Or.inr rfl

theorem State.timingRestart_reports (s : State) (changed : Bool) :
    ((s.timingRestart changed).reports.condEnables, (s.timingRestart changed).reports.queueEnables,
        (s.timingRestart changed).reports.attn) = (s.reports.condEnables, s.reports.queueEnables, s.reports.attn) ∧
      ∀ q : Fin 4, q ≠ 0 → (s.timingRestart changed).reports.queues[q] = s.reports.queues[q] := by
  have posts := s.changeLock_changePosts .free true (s.engine.restarted s.timing.standard s.timing.lpix)
  unfold State.timingRestart
  rw [State.engineRestart_eq]
  have reports := State.changeLock_reports s .free true (s.engine.restarted s.timing.standard s.timing.lpix)
  generalize s.changeLock .free true (s.engine.restarted s.timing.standard s.timing.lpix) = e at posts reports
  dsimp only
  generalize hu : (e.1.setClassifier _).setTiming _ = u
  have stood : u.reports = s.reports := by
    rw [← hu, State.setTiming_reports, State.setClassifier_reports, reports]
  refine ⟨?_, fun q hq => ?_⟩
  · obtain ⟨conds, queues, attn⟩ := u.postWork_enables none [(.engine, e.2), (.classifier, _)]
    rw [conds, queues, attn, stood]
  · rw [State.postWork_queue_ne, stood]
    intro w hw p hp
    have lock : p.queue = 0 := by
      obtain h | h := List.mem_cons.mp hw
      · rw [h, posts] at hp
        exact changePosts_queue p hp
      · cases List.mem_singleton.mp h
        rw [Classifier.restart_posts] at hp
        split at hp
        · cases List.mem_singleton.mp hp
          rfl
        · cases hp
    rw [lock]
    exact Ne.symm hq

theorem State.timingRestart_restarted (s : State) (changed : Bool) : timingRestarted s (s.timingRestart changed) changed := by
  obtain ⟨stamp, pulse, banks, fades, cues, link, -⟩ := s.timingRestart_keeps changed
  obtain ⟨enables, others⟩ := s.timingRestart_reports changed
  refine ⟨?_, s.timingRestart_timing changed, ?_, ?_, s.timingRestart_mixer changed, banks, fades, cues, link, stamp, pulse,
    enables, others, s.timingRestart_queue changed⟩
  · rw [State.timingRestart_engine]
    rfl
  · rw [State.timingRestart_classifier]
    rfl
  · rw [State.timingRestart_store]
    exact Store.handed_goneIdle _ rfl

theorem answerSetStandard_of_code (s : State) {v : Byte} {std : Standard} (h : v.toNat = std.code) :
    answerSetStandard [v] s =
      (if s.timing.standard = std then s else (s.setTiming { s.timing with standard := std }).timingRestart true).okay [v] := by
  rw [answerSetStandard, fields_one, h]
  simp only [standardOf_code, bytesOf_of_toNat h]

theorem answerSetStandard_bad (s : State) {v : Byte} (h : 2 ≤ v.toNat) : answerSetStandard [v] s = s.refuse .badParam := by
  rw [answerSetStandard, fields_one]
  simp only [standardOf_none h]

theorem Timing.withRaster_eq_iff (t : Timing) (lpix : Nat) (mode : RasterMode) (latency : Nat) :
    t.withRaster lpix mode latency = t ↔ t.lpix = lpix ∧ t.mode = mode ∧ t.latency = latency := by
  constructor
  · intro h
    have fields : (t.withRaster lpix mode latency).lpix = t.lpix ∧ (t.withRaster lpix mode latency).mode = t.mode ∧
        (t.withRaster lpix mode latency).latency = t.latency := by
      rw [h]
      exact ⟨rfl, rfl, rfl⟩
    obtain ⟨hl, hm, hn⟩ := fields
    exact ⟨hl.symm, hm.symm, hn.symm⟩
  · rintro ⟨rfl, rfl, rfl⟩
    rfl

theorem answerSetRaster_of_code (s : State) (a b : Byte) {m : Byte} (n : Byte) {mode : RasterMode} (h : m.toNat = mode.code) :
    let lpix := clampNat 320 1400 (256 * a.toNat + b.toNat)
    let latency := clampNat 0 15 n.toNat
    answerSetRaster [a, b, m, n] s =
      (if s.timing.withRaster lpix mode latency = s.timing then s
        else (s.setTiming (s.timing.withRaster lpix mode latency)).timingRestart false).okay
        (bytesOf 2 lpix ++ [m, BitVec.ofNat 8 latency]) := by
  rw [answerSetRaster, fields_two_one_one, h]
  simp only [rasterModeOf_code, bytesOf_of_toNat h, List.append_assoc]
  rfl

theorem answerSetRaster_bad (s : State) (a b : Byte) {m : Byte} (n : Byte) (h : 2 ≤ m.toNat) :
    answerSetRaster [a, b, m, n] s = s.refuse .badParam := by
  rw [answerSetRaster, fields_two_one_one]
  simp only [rasterModeOf_none h]

/-- Settles O30: equal values answer without a restart, and any other does what a timing restart does. -/
theorem standardAndRasterRestartTiming : Obligations.StandardAndRasterRestartTiming := by
  refine ⟨fun s v taken => ⟨fun bad => ?_, fun std code same => ?_, fun std code other => ?_⟩,
    fun s a b m n taken => ⟨fun bad => ?_, fun mode code same => ?_, fun mode code other => ?_⟩⟩
  · exact s.request_refused taken (answerSetStandard_bad s bad)
  · have answer := answerSetStandard_of_code s code
    rw [if_pos same] at answer
    exact s.request_okay _ taken answer
  · have answer := answerSetStandard_of_code s code
    rw [if_neg other] at answer
    refine ⟨_, s.request_okay _ taken answer, State.timingRestart_restarted _ true, ?_⟩
    rw [State.timingRestart_classifier]
    exact Bool.and_false _
  · exact s.request_refused taken (answerSetRaster_bad s a b n bad)
  · have answer := answerSetRaster_of_code s a b n code
    dsimp only at answer
    rw [if_pos ((Timing.withRaster_eq_iff ..).mpr same)] at answer
    exact s.request_okay _ taken answer
  · have answer := answerSetRaster_of_code s a b n code
    dsimp only at answer
    rw [if_neg fun h => other ((Timing.withRaster_eq_iff ..).mp h)] at answer
    refine ⟨_, s.request_okay _ taken answer, State.timingRestart_restarted _ false, ?_⟩
    rw [State.timingRestart_classifier]
    exact Bool.and_true _

/-! ## The internal reference (R35, R49, R56) -/

/-- The reports of a change of lock state alone in the LOCK queue. -/
theorem State.postAll_changePosts (s : State) (old new : LockState) (setsK atLimit : Bool)
    (room : (s.reports.queues[(0 : Fin 4)]).length ≤ 22) :
    (s.postAll (changePosts old new setsK atLimit)).reports.queues[(0 : Fin 4)] =
      s.reports.queues[(0 : Fin 4)] ++ recordsOf s.timing.count (changePosts old new setsK atLimit) := by
  have length := changePosts_length old new setsK atLimit
  have all := postsTo_all (changePosts_queue (old := old) (new := new) (setsK := setsK) (atLimit := atLimit))
  have posted := fun room => s.postAll_recordsOf (changePosts old new setsK atLimit) (q := 0) room
  rw [all] at posted
  exact posted (by omega)

theorem recordsOf_changePosts (count : Count) {old new : LockState} (other : new ≠ old) (atLimit : Bool) :
    recordsOf count (changePosts old new true atLimit) =
      ⟨.stateChange, count, BitVec.ofNat 8 new.code, BitVec.ofNat 16 old.code⟩ ::
        (if atLimit then [⟨.atLimitLeave, count, 0, 0⟩] else []) := by
  unfold changePosts recordsOf
  rw [if_neg other]
  cases atLimit <;> rfl

theorem changeLock_timing_of_cancels (s : State) {new : LockState} (cancels : new.cancelsJam = true) (setsK : Bool) (e : Engine) :
    (s.changeLock new setsK e).1.timing = { s.timing with jam := none } := by
  rw [State.changeLock_timing, if_pos cancels]

/-- A change of lock state to INTERNAL or FREE with its reports posted. -/
theorem State.postAll_changeLock (s : State) {new : LockState} (e : Engine) (cancels : new.cancelsJam = true)
    (idle : new.storeActive = false) (other : new ≠ s.engine.lock) :
    let r := s.changeLock new true e
    let t := r.1.postAll r.2
    t.engine = { e with lock := new, unlocked := new.isUnlocked, atLimit := false } ∧
    t.timing = { s.timing with jam := none } ∧ t.store = s.store.goneIdle ∧ t.mixer = { s.mixer with recorded := new } ∧
    (t.classifier, t.banks, t.fades, t.cues, t.link) = (s.classifier, s.banks, s.fades, s.cues, s.link) ∧
    ((s.reports.queues[(0 : Fin 4)]).length ≤ 22 →
      t.reports.queues[(0 : Fin 4)] = s.reports.queues[(0 : Fin 4)] ++
        ⟨.stateChange, s.timing.count, BitVec.ofNat 8 new.code, BitVec.ofNat 16 s.engine.lock.code⟩ ::
          (if s.engine.atLimit then [⟨.atLimitLeave, s.timing.count, 0, 0⟩] else [])) := by
  dsimp only
  have timing := changeLock_timing_of_cancels s cancels true e
  refine ⟨?_, ?_, ?_, ?_, ?_, fun room => ?_⟩
  · rw [State.postAll_engine, State.changeLock_engine]
    simp
  · rw [State.postAll_timing, timing]
  · rw [State.postAll_store, State.changeLock_store, Store.handed_goneIdle _ idle]
  · rw [State.postAll_mixer, State.changeLock_mixer]
  · simp
  · have queues := congrArg ReportUnit.queues (State.changeLock_reports s new true e)
    rw [State.changeLock_changePosts, State.postAll_changePosts, timing, queues, recordsOf_changePosts _ other]
    rw [queues]
    exact room

theorem LockState.isUnlocked_eq (l : LockState) : l.isUnlocked = decide (l ≠ .locked ∧ l ≠ .internal) := by
  cases l <;> rfl

/-- Settles O31: SET INTERNAL and RELEASE INTERNAL are changes of lock state, and the last part says what every change does. -/
theorem internalRequestsChangeLockState : Obligations.InternalRequestsChangeLockState := by
  refine ⟨fun s taken internal => ?_, fun s taken other => ?_, fun s taken other => ?_, fun s taken internal => ?_,
    fun s new setsK e => ?_⟩
  · exact s.request_okay _ taken (if_pos internal)
  · refine ⟨_, s.request_okay _ taken (if_neg other), ?_⟩
    exact s.postAll_changeLock _ rfl rfl (Ne.symm other)
  · exact s.request_refused taken (if_neg other)
  · refine ⟨_, s.request_okay _ taken (if_pos internal), ?_⟩
    have left := s.postAll_changeLock (new := .free) { s.engine.freeRun with qual := 0 } rfl rfl (by rw [internal]; exact nofun)
    rw [internal] at left
    exact left
  · refine ⟨?_, State.changeLock_mixer .., ?_, ?_, State.changeLock_changePosts ..⟩
    · rw [State.changeLock_engine, LockState.isUnlocked_eq]
    · rw [State.changeLock_store]
      unfold Store.handed
      cases new <;> rfl
    · rw [State.changeLock_timing]
      cases new <;> rfl

end Sys2Proof.Machine

/-! The records of the replies (R174, R177; Tables 10-G and 10-H): each record's bytes are its fields packed, and the queries
answer with them. -/

namespace Sys2Proof.Machine

/-! ## Packed fields -/

theorem packed_append (fs gs : List (Nat × Int)) : packed (fs ++ gs) = packed fs ++ packed gs := List.flatMap_append ..

theorem packed_singleton (n : Nat) (v : Int) :
    packed [(n, v)] = (List.range n).map fun i => BitVec.ofInt 8 (v / 256 ^ (n - 1 - i)) := List.flatMap_singleton ..

theorem packed_flatMap {α : Type} (xs : List α) (f : α → List (Nat × Int)) :
    packed (xs.flatMap f) = xs.flatMap fun x => packed (f x) := List.flatMap_assoc ..

theorem packed_length (fs : List (Nat × Int)) : (packed fs).length = (fs.map (·.1)).sum := by
  unfold packed
  rw [List.length_flatMap]
  congr 1
  refine List.map_congr_left fun f _ => ?_
  rw [List.length_map, List.length_range]

/-- Records of one length in a row. -/
theorem packed_flatMap_length {n k : Nat} {f : Fin n → List (Nat × Int)} (h : ∀ i, (packed (f i)).length = k) :
    (packed ((List.finRange n).flatMap f)).length = n * k := by
  rw [packed_flatMap, List.length_flatMap]
  simp [h]

/-- A number in bytes, most significant byte first. -/
theorem bytesOf_eq_packed (n v : Nat) : bytesOf n v = packed [(n, (v : Int))] := by
  rw [packed_singleton]
  induction n generalizing v with
  | zero => rfl
  | succ n ih =>
    rw [bytesOf, ih, List.range_succ, List.map_append]
    congr 1
    · refine List.map_congr_left fun i hi => ?_
      have below : n + 1 - 1 - i = n - 1 - i + 1 := by
        have := List.mem_range.mp hi
        omega
      rw [below, pow_succ', ← Int.ediv_ediv_of_nonneg (by decide)]
      norm_cast
    · rw [List.map_singleton, Nat.add_sub_cancel, Nat.sub_self, pow_zero, Int.ediv_one, BitVec.ofInt_natCast]

/-- Byte by byte a number and its residue modulo the whole width agree. -/
theorem ofInt_div_emod (v : Int) {n i : Nat} (h : i < n) :
    BitVec.ofInt 8 (v % 256 ^ n / 256 ^ (n - 1 - i)) = BitVec.ofInt 8 (v / 256 ^ (n - 1 - i)) := by
  obtain ⟨j, rfl⟩ : ∃ j, n = j + 1 + i := ⟨n - 1 - i, by omega⟩
  have position : j + 1 + i - 1 - i = j := by omega
  rw [position]
  have split : v = v % 256 ^ (j + 1 + i) + 256 ^ j * (256 * (256 ^ i * (v / 256 ^ (j + 1 + i)))) := by
    have whole := Int.emod_add_mul_ediv v (256 ^ (j + 1 + i))
    rw [pow_add, pow_succ] at whole ⊢
    linarith
  conv_rhs => rw [split]
  rw [Int.add_mul_ediv_left _ _ (by positivity)]
  apply BitVec.eq_of_toNat_eq
  rw [BitVec.toNat_ofInt, BitVec.toNat_ofInt]
  exact congrArg Int.toNat (Int.add_mul_emod_self_left ..).symm

/-- A negative number in two's complement. -/
theorem bytesOfInt_eq_packed (n : Nat) (v : Int) : bytesOfInt n v = packed [(n, v)] := by
  unfold bytesOfInt
  rw [bytesOf_eq_packed, packed_singleton, packed_singleton]
  refine List.map_congr_left fun i hi => ?_
  rw [← ofInt_div_emod v (List.mem_range.mp hi), BitVec.toNat_ofInt]
  have width : (2 : Int) ^ (8 * n) = 256 ^ n := by
    rw [pow_mul]
    norm_num
  have residue : ((v % (2 ^ (8 * n) : Nat)).toNat : Int) = v % 256 ^ n := by
    rw [Int.toNat_of_nonneg (Int.emod_nonneg _ (by positivity)), Nat.cast_pow]
    push_cast
    rw [width]
  rw [residue]

theorem bit_eq (b : Bool) : bit b = (boolCode b : Int) := by cases b <;> rfl

theorem Vector.toList_eq_map_finRange {α : Type} {n : Nat} (v : Vector α n) :
    v.toList = (List.finRange n).map fun i => v[i] := by
  apply List.ext_getElem
  · simp
  · intro i _ _
    simp

theorem Vector.flatMap_toList {α β : Type} {n : Nat} (v : Vector α n) (f : α → List β) :
    v.toList.flatMap f = (List.finRange n).flatMap fun i => f v[i] := by
  rw [Vector.toList_eq_map_finRange, List.flatMap_map]

theorem byte_eq_packed (b : Byte) : [b] = packed [(1, (b.toNat : Int))] := by
  rw [← bytesOf_eq_packed, bytesOf_one]

/-! ## Codes as numbers (Table 10-H) -/

theorem Tracking.code_int (x : Tracking) : (x.code : Int) = match x with | .search => 0 | .track => 1 := by cases x <;> rfl

theorem Profile.code_int (x : Profile) : (x.code : Int) = match x with | .broadcast => 0 | .tape => 1 := by cases x <;> rfl

theorem LockState.code_int (x : LockState) :
    (x.code : Int) = match x with | .free => 0 | .acquire => 1 | .locked => 2 | .holdover => 3 | .internal => 4 := by
  cases x <;> rfl

theorem Standard.code_int (x : Standard) : (x.code : Int) = match x with | .s625 => 0 | .s525 => 1 := by cases x <;> rfl

theorem RasterMode.code_int (x : RasterMode) : (x.code : Int) = match x with | .interlaced => 0 | .nonInterlaced => 1 := by
  cases x <;> rfl

theorem MixMode.code_int (x : MixMode) : (x.code : Int) = match x with | .replace => 0 | .add => 1 := by cases x <;> rfl

theorem FadeKind.code_int (x : FadeKind) : (x.code : Int) = match x with | .stop => 0 | .wrap => 1 | .bounce => 2 := by
  cases x <;> rfl

theorem ColourClass.code_int (x : ColourClass) : (x.code : Int) = match x with | .clear => 0 | .solid => 1 | .half => 2 := by
  cases x <;> rfl

theorem LossPolicy.code_int (x : LossPolicy) : (x.code : Int) = match x with | .keep => 0 | .full => 1 | .hide => 2 := by
  cases x <;> rfl

theorem Source.code_int (x : Source) : (x.code : Int) = match x with | .matte => 0 | .store => 1 := by cases x <;> rfl

theorem BankName.code_int (x : BankName) : (x.code : Int) = match x with | .a => 0 | .b => 1 := by cases x <;> rfl

theorem lineOneCode_int (x : Option LineOne) :
    (lineOneCode x : Int) = match x with | none => 0 | some .hit => 1 | some .miss => 2 := by
  obtain _ | x := x
  · rfl
  · cases x <;> rfl

theorem routeCode_int (x : Option (Fin 4)) : (routeCode x : Int) = match x with | none => 4 | some q => q.val := by
  cases x <;> rfl

theorem indexCode_int {n : Nat} (x : Option (Fin n)) :
    (indexCode (x.map (·.val)) : Int) = match x with | none => 255 | some i => i.val := by
  cases x <;> rfl

theorem keyerNextCode_int (x : Option Bool) : (keyerNextCode x : Int) = match x with | none => 255 | some v => bit v := by
  obtain _ | x := x
  · rfl
  · cases x <;> rfl

/-! ## The records -/

theorem Report.bytes_eq_packed (r : Report) : r.bytes = packed r.fieldsOf := by
  unfold Report.bytes
  rw [byte_eq_packed]
  simp only [bytesOf_eq_packed, ← packed_append]
  rfl

theorem LevelSource.bytes_eq_packed (l : LevelSource) :
    (match l with
      | .fixed v => bytesOf 1 0 ++ bytesOf 2 v
      | .gen g => bytesOf 1 1 ++ bytesOf 2 g.val) =
      packed [(1, match l with | .fixed _ => 0 | .gen _ => 1), (2, match l with | .fixed v => v | .gen g => g.val)] := by
  cases l <;> simp only [bytesOf_eq_packed, ← packed_append] <;> rfl

theorem Window.bytes_eq_packed (w : Window) : w.bytes = packed w.fieldsOf := by
  unfold Window.bytes
  refine (congrArg (_ ++ ·) (LevelSource.bytes_eq_packed w.level)).trans ?_
  simp only [bytesOf_eq_packed, ← packed_append, MixMode.code_int, ← bit_eq, List.cons_append, List.nil_append]
  rfl

theorem Fade.bytes_eq_packed (f : Fade) : f.bytes = packed f.fieldsOf := by
  unfold Fade.bytes alphaOf
  simp only [bytesOf_eq_packed, bytesOfInt_eq_packed, ← packed_append, FadeKind.code_int, ← bit_eq, List.cons_append,
    List.nil_append]
  rfl

/-- The action kind and the first parameter of an action. -/
def CueAction.headOf (a : CueAction) : List (Nat × Int) :=
  [(1, match a with | .swap _ => 0 | .fade _ _ => 1 | .fadeHold _ => 2 | .keyer _ => 3 | .arm _ => 4 | .mark => 5),
   (1, match a with
     | .swap v => bit v | .fade g _ => g.val | .fadeHold g => g.val | .keyer v => bit v | .arm j => j.val | .mark => 0)]

/-- The fade fields of an action. -/
def CueAction.fadeOf (a : CueAction) : List Int :=
  match a with
  | .fade _ p => [p.level, p.step, p.lo, p.hi, match p.kind with | .stop => 0 | .wrap => 1 | .bounce => 2]
  | _ => [0, 0, 0, 0, 0]

theorem CueAction.bytes_eq_packed (a : CueAction) :
    a.bytes = packed (a.headOf ++ [3, 2, 3, 3, 1].zip a.fadeOf) := by
  have none : bytesOf 12 0 = packed ([3, 2, 3, 3, 1].zip [0, 0, 0, 0, 0]) := rfl
  unfold CueAction.bytes
  cases a <;> dsimp only <;> simp only [none, bytesOf_eq_packed, bytesOfInt_eq_packed, ← packed_append, FadeKind.code_int, ← bit_eq] <;>
    rfl

theorem CueContent.bytes_eq_packed (c : CueContent) : c.bytes = packed c.fieldsOf := by
  unfold CueContent.bytes
  rw [CueAction.bytes_eq_packed]
  simp only [bytesOf_eq_packed, ← packed_append, routeCode_int, ← bit_eq, List.cons_append, List.nil_append]
  rfl

theorem Slot.bytes_eq_packed (x : Slot) : x.bytes = packed x.fieldsOf := by
  have none : bytesOf 6 0 = packed [(1, 0), (2, 0), (2, 0), (1, 0)] := rfl
  unfold Slot.bytes Slot.fieldsOf Key.code
  cases role : x.role with
  | free =>
    simp only [if_true]
    exact none
  | filled | shown =>
    simp only [bytesOf_eq_packed, ← packed_append, bit_eq, reduceCtorEq, if_false, List.cons_append, List.nil_append]
    push_cast
    rfl

theorem Store.bit_presentsBlack (st : Store) :
    bit st.presentsBlack = match st.shown with | none => 1 | some i => bit (st.slots[i]).synthetic := by
  unfold Store.presentsBlack
  cases st.shown <;> rfl

theorem Store.bytes_eq_packed (st : Store) : st.bytes = packed st.fieldsOf := by
  unfold Store.bytes Store.fieldsOf
  rw [packed_append, packed_flatMap, Vector.flatMap_toList]
  simp only [Slot.bytes_eq_packed]
  congr 1
  simp only [bytesOf_eq_packed, bytesOfInt_eq_packed, ← packed_append, indexCode_int, lineOneCode_int, ← bit_eq,
    List.cons_append, List.nil_append, Store.bit_presentsBlack]
  cases st.shown <;> rfl

theorem Jam.bytes_eq_packed (j : Option Jam) : Jam.bytes j = packed
    [(1, match j with | none => 0 | some _ => 1), (1, match j with | none => 0 | some j => j.parity.code),
     (1, match j with | none => 0 | some j => j.toCome)] := by
  unfold Jam.bytes
  cases j
  · rfl
  · simp only [bytesOf_eq_packed, ← packed_append, List.cons_append, List.nil_append]
    rfl

theorem Timing.load_int (load : Option Count) :
    (boolCode load.isSome : Int) = (match load with | none => 0 | some _ => 1) ∧
      ((load.getD 0).toNat : Int) = match load with | none => 0 | some v => v.toNat := by
  cases load <;> exact ⟨rfl, rfl⟩

theorem Timing.bytes_eq_packed (t : Timing) : t.bytes = packed t.fieldsOf := by
  obtain ⟨pending, value⟩ := Timing.load_int t.load
  unfold Timing.bytes
  simp only [bytesOf_eq_packed, Jam.bytes_eq_packed, ← packed_append, Standard.code_int, RasterMode.code_int, pending, value,
    List.cons_append, List.nil_append]
  rfl

/-- The fields of the numbering in the lock record. -/
def Numbering.fieldsOf (n : Numbering) : List (Nat × Int) :=
  [(1, match n with | .unnumbered => 0 | .awaiting _ => 1 | .numbered _ => 2),
   (1, match n with | .unnumbered => 0 | .awaiting p => p.code | .numbered k => k.parity.code),
   (2, match n with | .unnumbered => 0 | .awaiting _ => 0 | .numbered k => k.line)]

/-- The fields of the verdict in the lock record. -/
def verdictFields (v : Option Verdict) : List (Nat × Int) :=
  [(1, match v with | none => 0 | some v => v.parity.code), (2, match v with | none => 0 | some v => v.lines),
   (1, match v with | none => 0 | some v => if v.good then 1 else 2)]

theorem Numbering.bytes_eq_packed (n : Numbering) :
    (match n with
      | .unnumbered => bytesOf 1 0 ++ bytesOf 1 0 ++ bytesOf 2 0
      | .awaiting p => bytesOf 1 1 ++ bytesOf 1 p.code ++ bytesOf 2 0
      | .numbered k => bytesOf 1 2 ++ bytesOf 1 k.parity.code ++ bytesOf 2 k.line) = packed n.fieldsOf := by
  cases n <;> simp only [bytesOf_eq_packed, ← packed_append] <;> rfl

theorem Verdict.bytes_eq_packed (v : Option Verdict) :
    (match v with
      | none => bytesOf 4 0
      | some v => bytesOf 1 v.parity.code ++ bytesOf 2 v.lines ++ bytesOf 1 (if v.good then 1 else 2)) =
      packed (verdictFields v) := by
  cases v
  · rfl
  · simp only [bytesOf_eq_packed, ← packed_append, Nat.cast_ite]
    rfl

theorem Classifier.bytes_eq_packed (c : Classifier) : c.bytes = packed c.fieldsOf := by
  have parts : c.bytes = bytesOf 1 c.tracking.code ++ bytesOf 2 c.lavg ++ packed c.numbering.fieldsOf ++
      bytesOf 1 c.synthCount ++ bytesOf 1 c.badCount ++ packed (verdictFields c.verdict) ++ bytesOf 1 c.wrongRun ++
      bytesOf 1 (boolCode c.refAbsent) ++ bytesOf 1 (boolCode c.mismatch) := by
    rw [← Numbering.bytes_eq_packed, ← Verdict.bytes_eq_packed]
    rfl
  rw [parts]
  simp only [bytesOf_eq_packed, ← packed_append, ← bit_eq, Tracking.code_int, Numbering.fieldsOf, verdictFields,
    List.cons_append, List.nil_append]
  rfl

theorem Engine.bytes_eq_packed (e : Engine) : e.bytes = packed e.fieldsOf := by
  unfold Engine.bytes Engine.gainsInUse
  simp only [bytesOf_eq_packed, bytesOfInt_eq_packed, ← packed_append, ← bit_eq, Profile.code_int, LockState.code_int,
    List.cons_append, List.nil_append]
  rfl

theorem ColourEntry.bytes_eq_packed (e : ColourEntry) : e.bytes = packed
    [(1, (e.colour.y.toNat : Int)), (1, (e.colour.cb.toNat : Int)), (1, (e.colour.cr.toNat : Int)),
     (1, match e.cls with | .clear => 0 | .solid => 1 | .half => 2)] := by
  have components : sampleBytes e.colour = [e.colour.y] ++ [e.colour.cb] ++ [e.colour.cr] := rfl
  unfold ColourEntry.bytes
  rw [components, byte_eq_packed, byte_eq_packed, byte_eq_packed]
  simp only [bytesOf_eq_packed, ← packed_append, ColourClass.code_int]
  rfl

theorem clipBytes_eq_packed (r : Option ClipRecord) : clipBytes r = packed
    [(1, match r with | none => 0 | some r => (match r.kind with | .video => 1 | .key => 2)),
     (2, match r with | none => 0 | some r => 1024 * r.key.parity.code + r.key.line),
     (3, match r with | none => 0 | some r => r.count.toNat)] := by
  obtain _ | r := r
  · rfl
  · unfold clipBytes Key.code
    simp only [bytesOf_eq_packed, ← packed_append, List.cons_append, List.nil_append]
    push_cast
    cases r.kind <;> rfl

theorem Mixer.bytes_eq_packed (m : Mixer) (latency : Nat) : m.bytes latency = packed (m.fieldsOf latency) := by
  have matte : sampleBytes m.matte = [m.matte.y] ++ [m.matte.cb] ++ [m.matte.cr] := rfl
  unfold Mixer.bytes Mixer.fieldsOf
  rw [packed_append, packed_flatMap, Vector.flatMap_toList, matte, byte_eq_packed, byte_eq_packed, byte_eq_packed]
  simp only [ColourEntry.bytes_eq_packed, bytesOf_eq_packed, clipBytes_eq_packed, List.append_assoc]
  congr 1
  simp only [← packed_append, ← bit_eq, LossPolicy.code_int, Source.code_int, keyerNextCode_int, List.cons_append,
    List.nil_append] <;>
  rfl

/-- The pending copy flag is 0 with no swap pending (R177). -/
theorem bit_getD (swap : Option Bool) : bit (swap.getD false) = bit (swap = some true) := by
  obtain _ | c := swap
  · rfl
  · cases c <;> rfl

theorem Banks.bytes_eq_packed (b : Banks) (n : BankName) : b.bytes n = packed
    ([(1, match b.live with | .a => 0 | .b => 1), (1, bit b.swap.isSome), (1, bit (b.swap = some true))] ++
      (List.finRange 8).flatMap fun i => ((b.windows n)[i]).fieldsOf) := by
  unfold Banks.bytes
  rw [packed_append, packed_flatMap, Vector.flatMap_toList]
  simp only [Window.bytes_eq_packed]
  congr 1
  simp only [bytesOf_eq_packed, ← packed_append, BankName.code_int, ← bit_eq, bit_getD, List.cons_append, List.nil_append]

/-! ## The queries -/

/-! ## Lengths -/

theorem Slot.fieldsOf_length (x : Slot) : (packed x.fieldsOf).length = 6 := by rw [packed_length]; rfl

theorem Window.fieldsOf_length (w : Window) : (packed w.fieldsOf).length = 13 := by rw [packed_length]; rfl

theorem Store.fieldsOf_length (st : Store) : (packed st.fieldsOf).length = 56 := by
  unfold Store.fieldsOf
  rw [packed_append, List.length_append, packed_flatMap_length fun i => (st.slots[i]).fieldsOf_length, packed_length]
  rfl

theorem Mixer.fieldsOf_length (m : Mixer) (latency : Nat) : (packed (m.fieldsOf latency)).length = 79 := by
  unfold Mixer.fieldsOf
  rw [packed_append, List.length_append, packed_flatMap_length (k := 4) fun i => packed_length _, packed_length]
  rfl

theorem Classifier.fieldsOf_length (c : Classifier) : (packed c.fieldsOf).length = 16 := by
  simp [packed_length, Classifier.fieldsOf]

theorem Engine.fieldsOf_length (e : Engine) : (packed e.fieldsOf).length = 46 := by
  simp [packed_length, Engine.fieldsOf]

section
variable (s : State)

theorem exec_queryLock :
    exec (.queryLock []) s = s.request 0x1A [] fun t => t.query [] (t.classifier.bytes ++ t.engine.bytes) := rfl

theorem exec_queryTiming : exec (.queryTiming []) s = s.request 0x1B [] fun t => t.query [] t.timing.bytes := rfl

theorem exec_queryStore : exec (.queryStore []) s = s.request 0x22 [] fun t => t.query [] t.store.bytes := rfl

theorem exec_queryMixer : exec (.queryMixer []) s = s.request 0x38 [] (answerQueryMixer []) := rfl

end

theorem answerQueryBank_of_code (s : State) {v : Byte} {n : BankName} (h : v.toNat = n.code) :
    answerQueryBank [v] s = s.okay (s.banks.bytes n) := by
  rw [answerQueryBank, fields_one, h]
  simp only [bankOf_code]

theorem answerQueryBank_bad (s : State) {v : Byte} (h : 2 ≤ v.toNat) : answerQueryBank [v] s = s.refuse .badParam := by
  rw [answerQueryBank, fields_one]
  simp only [bankOf_none h]

theorem CueContent.bytes_length (c : CueContent) : c.bytes.length = 24 := by
  obtain ⟨trigger, mask, repeats, route, tag, action⟩ := c
  rw [CueContent.bytes_eq_packed, packed_length]
  cases action <;> rfl

/-- Settles O32: each answer carries the record, and each record's bytes are its fields packed. -/
theorem queriesAnswerWithRecords : Obligations.QueriesAnswerWithRecords := by
  refine ⟨fun s => ⟨fun taken => ⟨?_, ?_⟩, fun taken => ⟨?_, ?_⟩, fun taken => ⟨?_, ?_⟩, fun taken => ⟨?_, ?_⟩,
    fun v n taken code => ⟨?_, ?_⟩, fun v taken bad => ?_⟩, fun w => ⟨w.bytes_eq_packed, ?_⟩, fun f => ⟨f.bytes_eq_packed, ?_⟩,
    fun c => ⟨c.bytes_eq_packed, ?_⟩, fun r => ⟨r.bytes_eq_packed, ?_⟩⟩
  · rw [packed_append, ← Classifier.bytes_eq_packed, ← Engine.bytes_eq_packed]
    rw [exec_queryLock]
    exact s.request_okay _ taken rfl
  · rw [packed_append, List.length_append, Classifier.fieldsOf_length, Engine.fieldsOf_length]
  · rw [← Timing.bytes_eq_packed]
    rw [exec_queryTiming]
    exact s.request_okay _ taken rfl
  · rw [packed_length]
    rfl
  · rw [← Store.bytes_eq_packed]
    rw [exec_queryStore]
    exact s.request_okay _ taken rfl
  · exact s.store.fieldsOf_length
  · rw [← Mixer.bytes_eq_packed]
    rw [exec_queryMixer]
    exact s.request_okay _ taken rfl
  · exact s.mixer.fieldsOf_length _
  · refine (s.request_okay _ taken (answerQueryBank_of_code s code)).trans ?_
    rw [Banks.bytes_eq_packed] <;> rfl
  · rw [packed_append, List.length_append, packed_flatMap_length fun i => Window.fieldsOf_length _, packed_length]
    rfl
  · exact s.request_refused taken (answerQueryBank_bad s bad)
  · rw [Window.bytes_eq_packed, packed_length]
    rfl
  · rw [Fade.bytes_eq_packed, packed_length]
    rfl
  · exact c.bytes_length
  · rw [Report.bytes_eq_packed, packed_length]
    rfl

end Sys2Proof.Machine

namespace Sys2Proof.Machine

/-! ## The key level (R92 to R94) -/

/-- The window of a pixel is the lowest-numbered enabled one that contains it. -/
theorem Pixel.window_eq_none {p : Pixel}
    (h : ∀ i : Fin 8, ¬((p.windows[i]).enabled = true ∧ (p.windows[i]).contains p.key.line p.x = true)) : p.window = none := by
  refine List.find?_eq_none.mpr fun w mem => ?_
  obtain ⟨i, bound, rfl⟩ := List.getElem_of_mem mem
  have at_i := h ⟨i, by simpa using bound⟩
  simpa using at_i

theorem Pixel.window_eq_some {p : Pixel} {i : Fin 8} (on : (p.windows[i]).enabled = true)
    (inside : (p.windows[i]).contains p.key.line p.x = true)
    (first : ∀ j : Fin 8, j < i → ¬((p.windows[j]).enabled = true ∧ (p.windows[j]).contains p.key.line p.x = true)) :
    p.window = some p.windows[i] := by
  refine List.find?_eq_some_iff_getElem.mpr ⟨by simp_all, i.val, by simp, by simp, fun j below => ?_⟩
  have at_j := first ⟨j, by omega⟩ below
  simpa [Classical.or_iff_not_imp_left] using at_j

theorem Pixel.window_mem {p : Pixel} {w : Window} (h : p.window = some w) : ∃ i : Fin 8, w = p.windows[i] := by
  obtain ⟨i, bound, same⟩ := List.getElem_of_mem (List.mem_of_find?_eq_some h)
  exact ⟨⟨i, by simpa using bound⟩, by simp [← same]⟩

/-- The key level with the keyer on and no rule of the loss policy for the line. -/
theorem Pixel.keyLevel_of_window {p : Pixel} {ctx : LineContext} (cls : ColourClass) (on : p.keyer = true)
    (served : ctx.source = .store ∨ ctx.policy = .keep) :
    p.keyLevel ctx cls = match p.window with
      | none => (0, .replace)
      | some w => (cls.apply (w.level.level p.levels), w.mode) := by
  obtain ⟨notFull, notHide⟩ : ¬(ctx.source = .matte ∧ ctx.policy = .full) ∧ ¬(ctx.source = .matte ∧ ctx.policy = .hide) := by
    rcases served with h | h <;> simp [h]
  unfold Pixel.keyLevel
  rw [on, if_neg notFull, if_neg notHide]
  rfl

theorem ColourClass.apply_le (cls : ColourClass) (level : Nat) : cls.apply level ≤ level := by
  cases cls with
  | clear => exact Nat.zero_le _
  | solid => exact Nat.le_refl _
  | half => exact Nat.div_le_self ..

theorem LevelSource.level_le {l : LevelSource} {levels : Vector Nat 4} (ok : l.ok) (bound : ∀ g : Fin 4, levels[g] ≤ 65536) :
    l.level levels ≤ 256 := by
  cases l with
  | fixed n => exact ok
  | gen g =>
    have := bound g
    change (levels[g] + 128) / 256 ≤ 256
    omega

theorem Pixel.keyLevel_le {p : Pixel} (ctx : LineContext) (cls : ColourClass) (windows : ∀ i : Fin 8, (p.windows[i]).level.ok)
    (levels : ∀ g : Fin 4, p.levels[g] ≤ 65536) : (p.keyLevel ctx cls).1 ≤ 256 := by
  unfold Pixel.keyLevel
  split_ifs
  · exact Nat.zero_le _
  · exact Nat.le_refl _
  · exact Nat.zero_le _
  · cases found : p.window with
    | none => exact Nat.zero_le _
    | some w =>
      obtain ⟨i, rfl⟩ := Pixel.window_mem found
      exact (cls.apply_le _).trans (LevelSource.level_le (windows i) levels)

/-- Settles O50: the four answers in their order, then the bound through the window's level. -/
theorem keyLevelIsFirstAnswerOfFour : Obligations.KeyLevelIsFirstAnswerOfFour := by
  intro p ctx cls
  refine ⟨fun off => ?_, fun on matte full => ?_, fun on matte hide => ?_, fun on served => ⟨fun outside => ?_, fun i en inside first => ?_⟩,
    Pixel.keyLevel_le ctx cls⟩
  · simp [Pixel.keyLevel, off]
  · simp [Pixel.keyLevel, on, matte, full]
  · simp [Pixel.keyLevel, on, matte, hide]
  · rw [Pixel.keyLevel_of_window cls on served, Pixel.window_eq_none outside]
  · rw [Pixel.keyLevel_of_window cls on served, Pixel.window_eq_some en inside first]
    dsimp only
    cases (p.windows[i]).level <;> cases cls <;> rfl

end Sys2Proof.Machine

namespace Sys2Proof.Machine

/-! ## The keyer request (R98) -/

theorem Mixer.writeKeyer_next (m : Mixer) (v : Bool) : (m.writeKeyer v).keyerNext = if v = m.keyer then none else some v := rfl

theorem answerKeyer_of_code (s : State) {b : Byte} {v : Bool} (h : b.toNat = boolCode v) :
    answerKeyer [b] s = (s.setMixer (s.mixer.writeKeyer v)).okay
      [BitVec.ofNat 8 (boolCode s.mixer.keyer),
        match (s.mixer.writeKeyer v).keyerNext with
        | none => 255
        | some k => BitVec.ofNat 8 (boolCode k)] := by
  rw [answerKeyer, fields_one, h]
  simp only [flagOf_boolCode]
  cases (s.mixer.writeKeyer v).keyerNext <;> rfl

theorem answerKeyer_bad (s : State) {b : Byte} (h : 2 ≤ b.toNat) : answerKeyer [b] s = s.refuse .badParam := by
  rw [answerKeyer, fields_one]
  simp only [flagOf_none h]

/-- Settles O51: the cases of the write, and the request as one write. -/
theorem keyerWriteHasThreeCases : Obligations.KeyerWriteHasThreeCases := by
  refine ⟨fun m v => ⟨fun other => ?_, fun same _ => ?_, fun same none => ?_, ?_⟩,
    fun s b taken => ⟨fun v code => ?_, fun bad => ?_⟩⟩
  · simp [Mixer.writeKeyer, other]
  · simp [Mixer.writeKeyer, same]
  · simp [Mixer.writeKeyer, same, ← none]
  · rw [Mixer.writeKeyer_next]
    by_cases same : v = m.keyer
    · rw [if_pos same]
      exact same.symm
    · rw [if_neg same]
      rfl
  · exact (s.request_okay _ taken (answerKeyer_of_code s code)).trans (by congr)
  · exact s.request_refused taken (answerKeyer_bad s bad)

/-! ## Settings that wait for a line start (R84, R86, R87) -/

theorem fields_ones_five (a b c d e : Byte) :
    fields [1, 1, 1, 1, 1] [a, b, c, d, e] = some [a.toNat, b.toNat, c.toNat, d.toNat, e.toNat] := by
  simp [fields, beNat_one]

theorem fields_ones_three (a b c : Byte) : fields [1, 1, 1] [a, b, c] = some [a.toNat, b.toNat, c.toNat] := by
  simp [fields, beNat_one]

theorem sampleBytes_eq (c : Sample) : sampleBytes c = [c.y, c.cb, c.cr] := rfl

theorem answerSetColour_of_codes (s : State) {i c : Byte} (y cb cr : Byte) {index : Fin 16} {cls : ColourClass}
    (hi : i.toNat = index.val) (hc : c.toNat = cls.code) :
    let entry : ColourEntry := ⟨legalColour y.toNat cb.toNat cr.toNat, cls⟩
    answerSetColour [i, y, cb, cr, c] s =
      (s.setMixer (s.mixer.editColour index entry)).okay [i, entry.colour.y, entry.colour.cb, entry.colour.cr, c] := by
  rw [answerSetColour, fields_ones_five, hi, hc]
  simp only [indexBelow_val, colourClassOf_code, ColourEntry.bytes, bytesOf_of_toNat hi, bytesOf_of_toNat hc, sampleBytes_eq,
    List.cons_append, List.nil_append]

theorem answerSetColour_bad (s : State) {i c : Byte} (y cb cr : Byte) (h : 16 ≤ i.toNat ∨ 3 ≤ c.toNat) :
    answerSetColour [i, y, cb, cr, c] s = s.refuse .badParam := by
  rw [answerSetColour, fields_ones_five]
  rcases h with index | cls
  · simp only [indexBelow_none index]
  · simp only [colourClassOf_none cls]
    cases indexBelow 16 i.toNat <;> rfl

theorem answerSetMatte_eq (s : State) (y cb cr : Byte) :
    let v := legalColour y.toNat cb.toNat cr.toNat
    answerSetMatte [y, cb, cr] s = (s.setMixer (s.mixer.editMatte v)).okay [v.y, v.cb, v.cr] := by
  rw [answerSetMatte, fields_ones_three]
  rfl

theorem answerSetLossPolicy_of_code (s : State) {b : Byte} {policy : LossPolicy} (h : b.toNat = policy.code) :
    answerSetLossPolicy [b] s = (s.setMixer (s.mixer.editPolicy policy)).okay [b] := by
  rw [answerSetLossPolicy, fields_one, h]
  simp only [lossPolicyOf_code, bytesOf_of_toNat h]

theorem answerSetLossPolicy_bad (s : State) {b : Byte} (h : 3 ≤ b.toNat) : answerSetLossPolicy [b] s = s.refuse .badParam := by
  rw [answerSetLossPolicy, fields_one]
  simp only [lossPolicyOf_none h]

/-- Settles O52: each request is one edit of the stored settings, with the value clamped before it is compared. -/
theorem mixerSettingsAwaitLineStart : Obligations.MixerSettingsAwaitLineStart := by
  refine ⟨fun s i y cb cr c taken => ⟨fun index cls hi hc => ⟨?_, legalColour_legal ..⟩, fun bad => ?_⟩,
    fun s y cb cr taken => ⟨?_, legalColour_legal ..⟩, fun s b taken => ⟨fun policy code => ?_, fun bad => ?_⟩⟩
  · exact s.request_okay _ taken (answerSetColour_of_codes s y cb cr hi hc)
  · exact s.request_refused taken (answerSetColour_bad s y cb cr bad)
  · exact s.request_okay _ taken (answerSetMatte_eq s y cb cr)
  · exact s.request_okay _ taken (answerSetLossPolicy_of_code s code)
  · exact s.request_refused taken (answerSetLossPolicy_bad s bad)

/-! ## The bank requests (R103 to R106) -/

theorem fields_ones_two (a b : Byte) : fields [1, 1] [a, b] = some [a.toNat, b.toNat] := by
  simp [fields, beNat_one]

theorem fields_window (b i e t0 t1 b0 b1 l0 l1 r0 r1 m k v0 v1 : Byte) :
    fields [1, 1, 1, 2, 2, 2, 2, 1, 1, 2] [b, i, e, t0, t1, b0, b1, l0, l1, r0, r1, m, k, v0, v1] =
      some [b.toNat, i.toNat, e.toNat, 256 * t0.toNat + t1.toNat, 256 * b0.toNat + b1.toNat, 256 * l0.toNat + l1.toNat,
        256 * r0.toNat + r1.toNat, m.toNat, k.toNat, 256 * v0.toNat + v1.toNat] := by
  simp [fields, beNat_one, beNat_two]

theorem State.editWindow_refused (s : State) {n : BankName} (i : Fin 8) (w : Window)
    (h : n = s.banks.live ∨ s.banks.swap.isSome = true) : s.editWindow n i w = s.refuse .wrongState := by
  have refused : s.banks.editRefused n = true := by
    unfold Banks.editRefused
    rcases h with h | h <;> simp [h]
  exact if_pos refused

theorem State.editWindow_taken (s : State) {n : BankName} (i : Fin 8) (w : Window) (staged : n ≠ s.banks.live)
    (idle : s.banks.swap = none) :
    s.editWindow n i w = (s.setBanks (s.banks.setWindows n ((s.banks.windows n).set i w))).okay w.bytes := by
  have taken : ¬s.banks.editRefused n = true := by
    unfold Banks.editRefused
    simp [staged, idle]
  exact if_neg taken

/-- A record that carries a window carries the one that its fields spell. -/
theorem windowOf_some {e t b l r m k v : Nat} {w : Window} (h : windowOf e t b l r m k v = some w) :
    ∃ e' m' l', flagOf e = some e' ∧ mixModeOf m = some m' ∧ levelSourceOf k v = some l' ∧
      w = ⟨e', clampNat 1 313 t, clampNat 1 313 b, clampNat 0 2047 l, clampNat 0 2047 r, m', l'⟩ := by
  unfold windowOf at h
  split at h
  · next e' m' l' he hm hl =>
    injection h with h
    exact ⟨e', m', l', he, hm, hl, h.symm⟩
  · nomatch h

theorem flagOf_some {v : Nat} {b : Bool} (h : flagOf v = some b) : b = decide (v = 1) :=
  match v, h with
  | 0, h => (Option.some.inj h).symm
  | 1, h => (Option.some.inj h).symm
  | _ + 2, h => nomatch h

theorem mixModeOf_some {v : Nat} {m : MixMode} (h : mixModeOf v = some m) : m = if v = 0 then .replace else .add :=
  match v, h with
  | 0, h => (Option.some.inj h).symm
  | 1, h => (Option.some.inj h).symm
  | _ + 2, h => nomatch h

theorem indexBelow_some {n v : Nat} {i : Fin n} (h : indexBelow n v = some i) : i.val = v := by
  unfold indexBelow at h
  split at h
  · exact (congrArg Fin.val (Option.some.inj h)).symm
  · nomatch h

theorem levelSourceOf_some {k v : Nat} {l : LevelSource} (h : levelSourceOf k v = some l) :
    l = if k = 0 then .fixed (clampNat 0 256 v) else .gen (BitVec.ofNat 2 v).toFin :=
  match k, h with
  | 0, h => (Option.some.inj h).symm
  | 1, h => by
    obtain ⟨g, index, rfl⟩ := Option.map_eq_some_iff.mp h
    have same := indexBelow_some index
    refine congrArg LevelSource.gen (Fin.ext ?_)
    change g.val = (BitVec.ofNat 2 v).toNat
    rw [BitVec.toNat_ofNat]
    omega
  | _ + 2, h => nomatch h

theorem levelSourceOf_none {k v : Nat} (h : 2 ≤ k ∨ k = 1 ∧ 3 < v) : levelSourceOf k v = none :=
  match k, h with
  | 0, h => by omega
  | 1, h => by
    have big : 4 ≤ v := by omega
    exact congrArg (Option.map LevelSource.gen) (indexBelow_none big)
  | _ + 2, _ => rfl

theorem windowOf_none {e t b l r m k v : Nat} (h : flagOf e = none ∨ mixModeOf m = none ∨ levelSourceOf k v = none) :
    windowOf e t b l r m k v = none := by
  unfold windowOf
  rcases h with h | h | h
  · simp only [h]
  · simp only [h]
    cases flagOf e <;> rfl
  · simp only [h]
    cases flagOf e <;> cases mixModeOf m <;> rfl

theorem byte_toNat_eq_zero (b : Byte) : b.toNat = 0 ↔ b = 0 := by
  rw [← BitVec.toNat_inj]
  rfl

theorem byte_toNat_eq_one (b : Byte) : b.toNat = 1 ↔ b = 1 := by
  rw [← BitVec.toNat_inj]
  rfl

theorem answerWindowSet_of_codes (s : State) {b i : Byte} (e t0 t1 b0 b1 l0 l1 r0 r1 m k v0 v1 : Byte) {n : BankName}
    {index : Fin 8} {w : Window} (hb : b.toNat = n.code) (hi : i.toNat = index.val)
    (hw : windowOf e.toNat (256 * t0.toNat + t1.toNat) (256 * b0.toNat + b1.toNat) (256 * l0.toNat + l1.toNat)
      (256 * r0.toNat + r1.toNat) m.toNat k.toNat (256 * v0.toNat + v1.toNat) = some w) :
    answerWindowSet [b, i, e, t0, t1, b0, b1, l0, l1, r0, r1, m, k, v0, v1] s = s.editWindow n index w := by
  rw [answerWindowSet, fields_window, hb, hi]
  simp only [bankOf_code, indexBelow_val, hw]

theorem answerWindowSet_bad (s : State) {b i e m k v0 v1 : Byte} (t0 t1 b0 b1 l0 l1 r0 r1 : Byte)
    (h : bankOf b.toNat = none ∨ indexBelow 8 i.toNat = none ∨ flagOf e.toNat = none ∨ mixModeOf m.toNat = none ∨
      levelSourceOf k.toNat (256 * v0.toNat + v1.toNat) = none) :
    answerWindowSet [b, i, e, t0, t1, b0, b1, l0, l1, r0, r1, m, k, v0, v1] s = s.refuse .badParam := by
  rw [answerWindowSet, fields_window]
  rcases h with h | h | h
  · simp only [h]
  · simp only [h]
    cases bankOf b.toNat <;> rfl
  · simp only [windowOf_none h]
    cases bankOf b.toNat <;> cases indexBelow 8 i.toNat <;> rfl

theorem answerWindowClear_of_codes (s : State) {b i : Byte} {n : BankName} {index : Fin 8} (hb : b.toNat = n.code)
    (hi : i.toNat = index.val) : answerWindowClear [b, i] s = s.editWindow n index Window.cleared := by
  rw [answerWindowClear, fields_ones_two, hb, hi]
  simp only [bankOf_code, indexBelow_val]

theorem answerWindowClear_bad (s : State) {b i : Byte} (h : 2 ≤ b.toNat ∨ 8 ≤ i.toNat) :
    answerWindowClear [b, i] s = s.refuse .badParam := by
  rw [answerWindowClear, fields_ones_two]
  rcases h with h | h
  · simp only [bankOf_none h]
  · simp only [indexBelow_none h]
    cases bankOf b.toNat <;> rfl

theorem answerBankSwap_bad (s : State) {b : Byte} (h : 2 ≤ b.toNat) : answerBankSwap [b] s = s.refuse .badParam := by
  rw [answerBankSwap, fields_one]
  simp only [flagOf_none h]

theorem boolCode_decide {v : Nat} (h : v < 2) : v = boolCode (decide (v = 1)) :=
  match v, h with
  | 0, _ => rfl
  | 1, _ => rfl

theorem answerBankSwap_busy (s : State) {b : Byte} (h : b.toNat < 2) (pending : s.banks.swap.isSome = true) :
    answerBankSwap [b] s = s.refuse .busy := by
  obtain ⟨copy, swap⟩ := Option.isSome_iff_exists.mp pending
  rw [answerBankSwap, fields_one, boolCode_decide h]
  simp only [flagOf_boolCode, Banks.writeSwap, swap]

theorem answerBankSwap_of_code (s : State) {b : Byte} {copy : Bool} (h : b.toNat = boolCode copy) (idle : s.banks.swap = none) :
    answerBankSwap [b] s = (s.setBanks { s.banks with swap := some copy }).okay [BitVec.ofNat 8 s.banks.live.code, 1] := by
  rw [answerBankSwap, fields_one, h]
  simp only [flagOf_boolCode, Banks.writeSwap, idle]
  rfl

/-- Settles O53: the edits refused by code and by state, the edit taken, and the swap written once. -/
theorem bankRequestsEditStagedBankAndPendSwap : Obligations.BankRequestsEditStagedBankAndPendSwap := by
  refine ⟨fun s b i e t0 t1 b0 b1 l0 l1 r0 r1 m k v0 v1 n index w => ?_,
    fun s b i e t0 t1 b0 b1 l0 l1 r0 r1 m k v0 v1 taken bad => ?_, fun s b i taken bad => ?_,
    fun s b i n index taken hb hi => ⟨fun refused => ?_, fun staged idle => ?_⟩,
    fun s b taken => ⟨fun bad => ?_, fun low pending => ?_, fun copy code idle => ?_⟩⟩
  · intro ps taken hb hi hw
    have answer := answerWindowSet_of_codes s e t0 t1 b0 b1 l0 l1 r0 r1 m k v0 v1 hb hi hw
    refine ⟨fun refused => ?_, fun staged idle => ⟨?_, windowOf_ok hw⟩, ?_⟩
    · exact s.request_refused taken (answer.trans (s.editWindow_refused index w refused))
    · exact s.request_okay _ taken (answer.trans (s.editWindow_taken index w staged idle))
    · obtain ⟨e', m', l', he, hm, hl, rfl⟩ := windowOf_some hw
      rw [flagOf_some he, mixModeOf_some hm, levelSourceOf_some hl]
      simp only [byte_toNat_eq_zero, byte_toNat_eq_one]
  · refine s.request_refused taken (answerWindowSet_bad s t0 t1 b0 b1 l0 l1 r0 r1 ?_)
    rcases bad with bank | index | enabled | mode | level
    · exact .inl (bankOf_none bank)
    · exact .inr (.inl (indexBelow_none index))
    · exact .inr (.inr (.inl (flagOf_none enabled)))
    · exact .inr (.inr (.inr (.inl (mixModeOf_none mode))))
    · exact .inr (.inr (.inr (.inr (levelSourceOf_none (level.imp_right (.imp_left (byte_toNat_eq_one k).mpr))))))
  · exact s.request_refused taken (answerWindowClear_bad s bad)
  · exact s.request_refused taken ((answerWindowClear_of_codes s hb hi).trans (s.editWindow_refused index _ refused))
  · exact s.request_okay _ taken ((answerWindowClear_of_codes s hb hi).trans (s.editWindow_taken index _ staged idle))
  · exact s.request_refused taken (answerBankSwap_bad s bad)
  · exact s.request_refused taken (answerBankSwap_busy s low pending)
  · exact s.request_okay _ taken (answerBankSwap_of_code s code idle)

end Sys2Proof.Machine

namespace Sys2Proof.Machine

/-! ## The steps of a generator (R112 to R115, R120) -/

section
variable {f : Fade}

theorem Fade.endWalk_marked (h : f.mark = true) : f.endWalk = ({ f with mark := false }, false) := if_pos h

theorem Fade.endWalk_idle (unmarked : f.mark = false) (idle : f.run = false) : f.endWalk = (f, false) := by
  simp [Fade.endWalk, unmarked, idle]

theorem Fade.endWalk_running (unmarked : f.mark = false) (running : f.run = true) : f.endWalk = f.stepOnce := by
  simp [Fade.endWalk, unmarked, running]

theorem Fade.stepOnce_stop (kind : f.kind = .stop) : f.stepOnce = f.stepStop := by rw [Fade.stepOnce, kind]
theorem Fade.stepOnce_wrap (kind : f.kind = .wrap) : f.stepOnce = (f.stepWrap, false) := by rw [Fade.stepOnce, kind]
theorem Fade.stepOnce_bounce (kind : f.kind = .bounce) : f.stepOnce = (f.stepBounce, false) := by rw [Fade.stepOnce, kind]

/-- A STOP generator that is loaded with step 0 stands still and has no end. -/
theorem Fade.stepStop_still (running : f.run = true) (still : f.step = 0) (low : f.lo ≤ f.level) (high : f.level ≤ f.hi) :
    f.stepStop = (f, false) := by
  have level : clampInt f.lo f.hi (f.level + f.step) = f.level := by
    rw [still, Int.add_zero]
    exact clampInt_of_mem (by omega) (by omega)
  unfold Fade.stepStop
  rw [level, still]
  cases f
  simp_all

theorem Fade.stepWrap_level (low : f.lo ≤ f.hi) : f.lo ≤ f.stepWrap.level ∧ f.stepWrap.level ≤ f.hi := by
  have span : (0 : Int) < (f.hi : Int) - f.lo + 1 := by omega
  have nonneg := Int.emod_nonneg ((f.level : Int) - f.lo + f.step) (Int.ne_of_gt span)
  have below := Int.emod_lt_of_pos ((f.level : Int) - f.lo + f.step) span
  constructor <;> simp only [Fade.stepWrap] <;> omega

theorem Fade.stepBounce_bounds (f : Fade) : f.stepBounce.lo = f.lo ∧ f.stepBounce.hi = f.hi := by
  unfold Fade.stepBounce
  dsimp only
  split_ifs <;> exact ⟨rfl, rfl⟩

theorem Fade.stepBounce_above (h : (f.hi : Int) < f.level + f.step) :
    f.stepBounce = { f with level := (2 * (f.hi : Int) - (f.level + f.step)).toNat, step := -f.step } := if_pos h

theorem Fade.stepBounce_below (range : f.lo ≤ f.hi) (h : (f.level : Int) + f.step < f.lo) :
    f.stepBounce = { f with level := (2 * (f.lo : Int) - (f.level + f.step)).toNat, step := -f.step } := by
  have notAbove : ¬(f.hi : Int) < f.level + f.step := by omega
  exact (if_neg notAbove).trans (if_pos h)

theorem Fade.stepBounce_within (low : (f.lo : Int) ≤ f.level + f.step) (high : (f.level : Int) + f.step ≤ f.hi) :
    f.stepBounce = { f with level := ((f.level : Int) + f.step).toNat } :=
  (if_neg (Int.not_lt.mpr high)).trans (if_neg (Int.not_lt.mpr low))

end

/-- Settles O54: one step of each kind, and no step for a generator that is marked or IDLE. -/
theorem fadeStepsMoveLevel : Obligations.FadeStepsMoveLevel := by
  refine ⟨fun f kind running unmarked range => ?_, fun f kind running unmarked range => ?_, fun f kind running ok => ?_,
    fun f => ⟨Fade.endWalk_marked, Fade.endWalk_idle⟩, fun fs g => ?_⟩
  · have walked := (Fade.endWalk_running unmarked running).trans (Fade.stepOnce_stop kind)
    refine ⟨?_, fun still low high => walked.trans (Fade.stepStop_still running still low high)⟩
    rw [walked, Fade.stepStop, running, clampInt]
    simp only [Bool.true_and, Bool.decide_or, Bool.decide_and]
  · have walked := (Fade.endWalk_running unmarked running).trans (Fade.stepOnce_wrap kind)
    have level := Fade.stepWrap_level range
    rw [walked]
    exact ⟨rfl, level.1, level.2, fun same => Nat.le_antisymm (same ▸ level.2) level.1⟩
  · have walked := (Fade.endWalk_running ok.2 running).trans (Fade.stepOnce_bounce kind)
    obtain ⟨⟨⟨low, high, -⟩, -⟩, -⟩ := f.ok_iff.mp ok
    have level := (Fade.stepBounce_inRange kind (f.ok_iff.mp ok).1).1
    obtain ⟨lo, hi⟩ := f.stepBounce_bounds
    rw [lo, hi] at level
    refine ⟨fun above => ?_, fun below => ?_, fun above below => ?_, ?_⟩
    · rw [walked, Fade.stepBounce_above above]
    · rw [walked, Fade.stepBounce_below (low.trans high) below]
    · rw [walked, Fade.stepBounce_within above below]
    · rw [walked]
      exact ⟨level.1, level.2.1⟩
  · rfl

/-! ## The fade requests (R116, R117, R121) -/

theorem fields_load (g l0 l1 l2 t0 t1 a0 a1 a2 h0 h1 h2 k : Byte) :
    fields [1, 3, 2, 3, 3, 1] [g, l0, l1, l2, t0, t1, a0, a1, a2, h0, h1, h2, k] =
      some [g.toNat, 65536 * l0.toNat + 256 * l1.toNat + l2.toNat, 256 * t0.toNat + t1.toNat,
        65536 * a0.toNat + 256 * a1.toNat + a2.toNat, 65536 * h0.toNat + 256 * h1.toNat + h2.toNat, k.toNat] := by
  simp [fields, beNat_one, beNat_two, beNat_three]

/-- What a load refuses, by its fields (R116, steps 1 to 5). -/
def loadRefused (gen : Nat) (step : Int) (lo hi kind : Nat) : Prop :=
  4 ≤ gen ∨ 3 ≤ kind ∨ hi < lo ∨ (kind = 1 ∧ hi - lo + 1 ≤ step.natAbs) ∨ (kind = 2 ∧ (hi - lo < step.natAbs ∨ step = -32768))

section
variable {gen level step lo hi kind : Nat}

theorem loadOf_none (h : loadRefused gen (signed 2 step) (clampNat 0 65536 lo) (clampNat 0 65536 hi) kind) :
    loadOf gen level step lo hi kind = none := by
  unfold loadOf
  rcases h with h | h | h | ⟨rfl, h⟩ | ⟨rfl, h⟩
  · simp only [indexBelow_none h]
  · simp only [fadeKindOf_none h]
    cases indexBelow 4 gen <;> rfl
  · cases indexBelow 4 gen <;> cases fadeKindOf kind <;> simp [h]
  · cases indexBelow 4 gen <;> simp [fadeKindOf, h]
  · cases indexBelow 4 gen <;> simp [fadeKindOf, h]

theorem loadOf_some {g : Fin 4} {k : FadeKind} (hg : gen = g.val) (hk : kind = k.code)
    (h : ¬loadRefused gen (signed 2 step) (clampNat 0 65536 lo) (clampNat 0 65536 hi) kind) :
    loadOf gen level step lo hi kind =
      some (g, ⟨clampNat (clampNat 0 65536 lo) (clampNat 0 65536 hi) (clampNat 0 65536 level), signed 2 step, clampNat 0 65536 lo,
        clampNat 0 65536 hi, k⟩) := by
  subst hg hk
  simp only [loadRefused, not_or, not_and] at h
  obtain ⟨-, -, order, wrap, bounce⟩ := h
  unfold loadOf
  simp only [indexBelow_val, fadeKindOf_code]
  have wraps : ¬(k = .wrap ∧ clampNat 0 65536 hi - clampNat 0 65536 lo + 1 ≤ (signed 2 step).natAbs) :=
    fun h => wrap (congrArg FadeKind.code h.1) h.2
  have bounces : ¬(k = .bounce ∧
      (clampNat 0 65536 hi - clampNat 0 65536 lo < (signed 2 step).natAbs ∨ signed 2 step = -32768)) :=
    fun h => h.2.elim (bounce (congrArg FadeKind.code h.1)).1 (bounce (congrArg FadeKind.code h.1)).2
  rw [if_neg order, if_neg wraps, if_neg bounces]

end

theorem byte_toNat_eq_two (b : Byte) : b.toNat = 2 ↔ b = 2 := by
  rw [← BitVec.toNat_inj]
  rfl

theorem generatorOf_index {b : Byte} {g : Fin 4} (h : b.toNat = g.val) : generatorOf [b] = some g := by
  rw [generatorOf, fields_one, h]
  exact indexBelow_val g

theorem generatorOf_none {b : Byte} (h : 4 ≤ b.toNat) : generatorOf [b] = none := by
  rw [generatorOf, fields_one]
  exact indexBelow_none h

theorem Fade.bytes_length (f : Fade) : f.bytes.length = 15 := by simp [Fade.bytes]

/-- Settles O55: the load by the verdict of `loadOf`, the other three by the generator that the index names. -/
theorem fadeRequestsLoadHoldAndResume : Obligations.FadeRequestsLoadHoldAndResume := by
  refine ⟨fun s g l0 l1 l2 t0 t1 a0 a1 a2 h0 h1 h2 k => ?_,
    fun s b => ⟨fun gen code => ⟨fun taken => ?_, fun taken => ?_, fun taken => ⟨?_, Fade.bytes_length _⟩⟩,
      fun bad => ⟨fun taken => ?_, fun taken => ?_, fun taken => ?_⟩⟩⟩
  · intro ps level step lo hi refused taken
    have refused_iff : refused ↔ loadRefused g.toNat step lo hi k.toNat := by
      simp only [refused, loadRefused, byte_toNat_eq_one, byte_toNat_eq_two]
    refine ⟨fun no => s.request_refused taken ?_, fun yes gen kind hg hk => s.request_okay _ taken ?_⟩
    · rw [answerFadeLoad, fields_load]
      simp only [loadOf_none (refused_iff.mp no)]
    · rw [answerFadeLoad, fields_load]
      simp only [loadOf_some hg hk (fun no => yes (refused_iff.mpr no))]
      rfl
  · have answer : answerFadeHold [b] s = s.putFade gen (s.fades[gen]).hold := by rw [answerFadeHold, generatorOf_index code]
    exact s.request_okay _ taken answer
  · have answer : answerFadeResume [b] s = s.putFade gen (s.fades[gen]).resume := by
      rw [answerFadeResume, generatorOf_index code]
    exact s.request_okay _ taken answer
  · exact s.request_okay _ taken (by rw [answerQueryFade, generatorOf_index code])
  · exact s.request_refused taken (by rw [answerFadeHold, generatorOf_none bad])
  · exact s.request_refused taken (by rw [answerFadeResume, generatorOf_none bad])
  · exact s.request_refused taken (by rw [answerQueryFade, generatorOf_none bad])

end Sys2Proof.Machine

namespace Sys2Proof.Machine

/-! ## Cues on their lists (R124, R125) -/

section
variable {p : CuePool} {i : Fin 64} {l m : CueList}

/-- A cue that stands on one list stands on no other. -/
theorem CuePool.not_mem_on (ok : p.ok) (on : i ∈ p.on l) (other : m ≠ l) : i ∉ p.on m := fun h =>
  other (((p.listOf_iff ok i m).mpr h).symm.trans ((p.listOf_iff ok i l).mpr on))

theorem CuePool.listOf_free_iff (ok : p.ok) : p.listOf i = .free ↔ i ∈ p.free := p.listOf_iff ok i .free

/-- The head of FREE taken to another list. -/
theorem CuePool.take_lists (ok : p.ok) {rest : List (Fin 64)} (free : p.free = i :: rest) (hl : l ≠ .free) (c : CueContent) :
    let q := p.take i l c
    q.records = p.records.set i ⟨c, false⟩ ∧ q.free = rest ∧ q.on l = p.on l ++ [i] ∧
      ∀ other, other ≠ .free → other ≠ l → q.on other = p.on other := by
  have head : i ∈ p.on .free := by
    change i ∈ p.free
    rw [free]
    exact List.mem_cons_self
  have elsewhere {m : CueList} (h : m ≠ .free) : (p.on m).erase i = p.on m :=
    List.erase_of_not_mem (CuePool.not_mem_on ok head h)
  have moved (m : CueList) : (p.take i l c).on m = (p.move i l .tail).on m := CuePool.on_setRecord ..
  refine ⟨?_, ?_, ?_, fun other notFree notTarget => ?_⟩
  · change (p.move i l .tail).records.set i _ = _
    rw [CuePool.records_move]
  · refine (moved .free).trans ((p.on_move_ne ok i (Ne.symm hl) .tail).trans ?_)
    change p.free.erase i = rest
    rw [free, List.erase_cons_head]
  · rw [moved, p.on_move_self ok, elsewhere hl]
    rfl
  · rw [moved, p.on_move_ne ok i notTarget, elsewhere notFree]

end

/-! ## CUE NEW and CUE SET (R126 to R128) -/

theorem fields_one_cons (sizes : List Nat) (v : Byte) (bs : List Byte) :
    fields (1 :: sizes) (v :: bs) = (fields sizes bs).map fun vs => v.toNat :: vs := by
  simp [fields, beNat_one]

/-- The 24 bytes of a cue content, behind one byte of the request. -/
theorem fields_content {bs : List Byte} (length : bs.length = 24) (v : Byte) :
    ∃ vs, fields (1 :: cueContentSizes) (v :: bs) = some (v.toNat :: vs) ∧ contentOf bs = cueContentOf vs := by
  have split : (fields cueContentSizes bs).isSome = true := by
    rw [fields_isSome, length]
    rfl
  obtain ⟨vs, some⟩ := Option.isSome_iff_exists.mp split
  exact ⟨vs, by rw [fields_one_cons, some]; rfl, by rw [contentOf, some]; rfl⟩

theorem newListOf_code {l : CueList} (h : l = .armed ∨ l = .held) : newListOf l.code = some l := by
  rcases h with rfl | rfl <;> rfl

theorem newListOf_none {v : Nat} (h : v ≠ 1 ∧ v ≠ 2) : newListOf v = none :=
  match v, h with
  | 0, _ => rfl
  | 1, h => absurd rfl h.1
  | 2, h => absurd rfl h.2
  | 3, _ => rfl
  | _ + 4, _ => rfl

section
variable (s : State) {v : Byte} {bs : List Byte} (length : bs.length = 24)
include length

theorem answerCueNew_bad (h : v ≠ 1 ∧ v ≠ 2 ∨ contentOf bs = none) : answerCueNew (v :: bs) s = s.refuse .badParam := by
  obtain ⟨vs, split, content⟩ := fields_content length v
  rw [answerCueNew, split]
  rcases h with ⟨notArmed, notHeld⟩ | none
  · have list : newListOf v.toNat = none :=
      newListOf_none ⟨fun h => notArmed ((byte_toNat_eq_one v).mp h), fun h => notHeld ((byte_toNat_eq_two v).mp h)⟩
    simp only [list]
  · simp only [← content, none]
    cases newListOf v.toNat <;> rfl

variable {content : CueContent} (hc : contentOf bs = some content)
include hc

theorem answerCueNew_full {list : CueList} (target : list = .armed ∨ list = .held) (code : v.toNat = list.code)
    (full : s.cues.free = []) : answerCueNew (v :: bs) s = s.refuse .noSpace := by
  obtain ⟨vs, split, same⟩ := fields_content length v
  rw [answerCueNew, split, code]
  simp only [newListOf_code target, ← same, hc, full]

theorem answerCueNew_taken {list : CueList} (target : list = .armed ∨ list = .held) (code : v.toNat = list.code) {i : Fin 64}
    {rest : List (Fin 64)} (free : s.cues.free = i :: rest) :
    answerCueNew (v :: bs) s = (s.setCues (s.cues.take i list content)).okay (BitVec.ofNat 8 i.val :: content.bytes) := by
  obtain ⟨vs, split, same⟩ := fields_content length v
  rw [answerCueNew, split, code]
  simp only [newListOf_code target, ← same, hc, free, bytesOf_one_eq_ofNat, List.cons_append, List.nil_append]

end

section
variable (s : State) {v : Byte} {bs : List Byte} (length : bs.length = 24)
include length

theorem answerCueSet_bad (h : 64 ≤ v.toNat ∨ contentOf bs = none) : answerCueSet (v :: bs) s = s.refuse .badParam := by
  obtain ⟨vs, split, content⟩ := fields_content length v
  rw [answerCueSet, split]
  rcases h with index | none
  · simp only [indexBelow_none index]
  · simp only [← content, none]
    cases indexBelow 64 v.toNat <;> rfl

variable {i : Fin 64} (index : v.toNat = i.val) {content : CueContent} (hc : contentOf bs = some content)
include index hc

theorem answerCueSet_refused (h : s.cues.listOf i = .free ∨ s.cues.listOf i = .armed) :
    answerCueSet (v :: bs) s = s.refuse .wrongState := by
  obtain ⟨vs, split, same⟩ := fields_content length v
  rw [answerCueSet, split, index]
  rcases h with list | list <;> simp only [indexBelow_val, ← same, hc, list]

theorem answerCueSet_taken (h : s.cues.listOf i = .held ∨ s.cues.listOf i = .done) :
    answerCueSet (v :: bs) s = (s.setCues (s.cues.rewrite i content)).okay content.bytes := by
  obtain ⟨vs, split, same⟩ := fields_content length v
  rw [answerCueSet, split, index]
  rcases h with list | list <;> simp only [indexBelow_val, ← same, hc, list]

end

/-- Settles O56: the checks in their order, the head of FREE taken to the target list, and the rewrite. -/
theorem cueNewAndCueSetStoreContent : Obligations.CueNewAndCueSetStoreContent := by
  refine ⟨fun s v bs taken length ok => ⟨fun bad => ?_, fun list content target code hc => ⟨fun full => ?_, fun i rest free => ?_⟩⟩,
    fun s v bs taken length => ⟨fun bad => ?_, fun i content index hc => ⟨fun list => ?_, fun list => ?_⟩⟩⟩
  · exact s.request_refused taken (answerCueNew_bad s length bad)
  · exact s.request_refused taken (answerCueNew_full s length hc target code full)
  · have notFree : list ≠ .free := by rcases target with rfl | rfl <;> exact nofun
    exact ⟨_, s.request_okay _ taken (answerCueNew_taken s length hc target code free),
      CuePool.take_lists ok free notFree content⟩
  · exact s.request_refused taken (answerCueSet_bad s length bad)
  · exact s.request_refused taken (answerCueSet_refused s length index hc list)
  · exact s.request_okay _ taken (answerCueSet_taken s length index hc list)

/-! ## CUE MOVE, CUE PLACE and CUE DISCARD (R129 to R131) -/

theorem moveListOf_code {l : CueList} (h : l ≠ .free) : moveListOf l.code = some l := by
  cases l with
  | free => exact absurd rfl h
  | armed => rfl
  | held => rfl
  | done => rfl

theorem moveListOf_none {v : Nat} (h : v = 0 ∨ 4 ≤ v) : moveListOf v = none :=
  match v, h with
  | 0, _ => rfl
  | 1, h => by omega
  | 2, h => by omega
  | 3, h => by omega
  | _ + 4, _ => rfl

theorem positionOf_none {v : Nat} (h : 2 ≤ v) : positionOf v = none :=
  match v, h with | _ + 2, _ => rfl

theorem positionOf_some {v : Nat} (h : v < 2) : positionOf v = some (if v = 0 then .head else .tail) :=
  match v, h with
  | 0, _ => rfl
  | 1, _ => rfl

section
variable (s : State) {v l p : Byte} {i : Fin 64} (index : v.toNat = i.val)

theorem answerCueMove_bad (h : 64 ≤ v.toNat ∨ l.toNat = 0 ∨ 4 ≤ l.toNat ∨ 2 ≤ p.toNat) :
    answerCueMove [v, l, p] s = s.refuse .badParam := by
  have bad : indexBelow 64 v.toNat = none ∨ moveListOf l.toNat = none ∨ positionOf p.toNat = none := by
    rcases h with h | h | h | h
    · exact .inl (indexBelow_none h)
    · exact .inr (.inl (moveListOf_none (.inl h)))
    · exact .inr (.inl (moveListOf_none (.inr h)))
    · exact .inr (.inr (positionOf_none h))
  rw [answerCueMove, fields_ones_three]
  rcases bad with h | h | h
  · simp only [h]
  · simp only [h]
    cases indexBelow 64 v.toNat <;> rfl
  · simp only [h]
    cases indexBelow 64 v.toNat <;> cases moveListOf l.toNat <;> rfl

include index

theorem answerCueMove_eq {list : CueList} (notFree : list ≠ .free) (code : l.toNat = list.code) (position : p.toNat < 2) :
    answerCueMove [v, l, p] s = if s.cues.listOf i = .free then s.refuse .wrongState
      else s.moveCue i list (if p.toNat = 0 then .head else .tail) := by
  rw [answerCueMove, fields_ones_three, index, code]
  simp only [indexBelow_val, moveListOf_code notFree, positionOf_some position]

omit index in
theorem answerCuePlace_bad {w : Byte} (h : 64 ≤ v.toNat ∨ 64 ≤ w.toNat ∨ v = w) :
    answerCuePlace [v, w] s = s.refuse .badParam := by
  rw [answerCuePlace, fields_ones_two]
  rcases h with h | h | rfl
  · simp only [indexBelow_none h]
  · simp only [indexBelow_none h]
    cases indexBelow 64 v.toNat <;> rfl
  · dsimp only
    cases indexBelow 64 v.toNat with
    | none => rfl
    | some i => exact if_pos rfl

theorem answerCuePlace_eq {w : Byte} {j : Fin 64} (second : w.toNat = j.val) (other : i ≠ j) :
    answerCuePlace [v, w] s = if s.cues.listOf i = .free ∨ s.cues.listOf j = .free then s.refuse .wrongState
      else s.moveCue i (s.cues.listOf j) (.before j) := by
  rw [answerCuePlace, fields_ones_two, index, second]
  simp only [indexBelow_val, if_neg other]

theorem cueOf_index : cueOf [v] = some i := by
  rw [cueOf, fields_one, index]
  exact indexBelow_val i

omit index in
theorem cueOf_none (h : 64 ≤ v.toNat) : cueOf [v] = none := by
  rw [cueOf, fields_one]
  exact indexBelow_none h

end

theorem CuePool.moved_lists {p : CuePool} (ok : p.ok) (i : Fin 64) (l : CueList) (place : Place) :
    (p.move i l place).records = p.records ∧ (p.move i l place).on l = insertAt i place ((p.on l).erase i) ∧
      ∀ other, other ≠ l → (p.move i l place).on other = (p.on other).erase i :=
  ⟨p.records_move .., p.on_move_self ok .., fun _ h => p.on_move_ne ok i h place⟩

theorem CuePool.discarded_lists {p : CuePool} (ok : p.ok) {i : Fin 64} (placed : i ∉ p.free) :
    let q := (p.move i .free .tail).clearFired i
    q.records = p.records.set i { p.records[i] with pending := false } ∧ q.free = p.free ++ [i] ∧
      ∀ other, other ≠ .free → q.on other = (p.on other).erase i := by
  obtain ⟨records, target, others⟩ := CuePool.moved_lists ok i .free .tail
  refine ⟨?_, ?_, fun other h => (CuePool.on_setRecord ..).trans (others other h)⟩
  · unfold CuePool.clearFired CuePool.setRecord
    rw [records]
  · refine target.trans ?_
    change p.free.erase i ++ [i] = _
    rw [List.erase_of_not_mem placed]

/-- Settles O57: every one of the three is a move, whose lists the pool's rules give. -/
theorem cueMovesKeepOtherCuesInOrder : Obligations.CueMovesKeepOtherCuesInOrder := by
  refine ⟨fun s v l p taken ok => ⟨fun bad => ?_, fun i list index notFree code position => ?_⟩,
    fun s v w taken ok => ⟨fun bad => ?_, fun i j hi hj other => ?_⟩,
    fun s v taken ok => ⟨fun bad => ?_, fun i index => ?_⟩⟩
  · exact s.request_refused taken (answerCueMove_bad s bad)
  · have answer := answerCueMove_eq s index notFree code position
    refine ⟨fun free => ?_, fun placed => ?_⟩
    · exact s.request_refused taken (answer.trans (if_pos ((CuePool.listOf_free_iff ok).mpr free)))
    · obtain ⟨records, target, others⟩ := CuePool.moved_lists ok i list (if p.toNat = 0 then .head else .tail)
      have moved := answer.trans (if_neg (mt (CuePool.listOf_free_iff ok).mp placed))
      refine ⟨_, s.request_okay _ taken moved, records, target.trans ?_, others⟩
      simp only [byte_toNat_eq_zero]
      split <;> rfl
  · exact s.request_refused taken (answerCuePlace_bad s bad)
  · have answer := answerCuePlace_eq s hi hj other
    refine ⟨fun free => ?_, fun placed list before after notFree order fresh => ?_⟩
    · have free' := free.imp (CuePool.listOf_free_iff ok).mpr (CuePool.listOf_free_iff ok).mpr
      exact s.request_refused taken (answer.trans (if_pos free'))
    · have on : j ∈ s.cues.on list := List.mem_of_mem_erase (a := j) (b := i) (by simp [order])
      have listed := (s.cues.listOf_iff ok j list).mpr on
      have notFree' : ¬(s.cues.listOf i = .free ∨ s.cues.listOf j = .free) :=
        not_or.mpr ⟨mt (CuePool.listOf_free_iff ok).mp placed, listed ▸ notFree⟩
      rw [if_neg notFree', listed] at answer
      obtain ⟨records, target, others⟩ := CuePool.moved_lists ok i list (.before j)
      refine ⟨_, s.request_okay _ taken answer, records, target.trans ?_, others⟩
      rw [order]
      exact insertBefore_append _ _ _ _ fresh
  · refine s.request_refused taken ?_
    rw [answerCueDiscard, cueOf_none bad]
  · have answer : answerCueDiscard [v] s = if s.cues.listOf i = .free then s.refuse .wrongState
        else (s.setCues ((s.cues.move i .free .tail).clearFired i)).okay
          (bytesOf 1 ((s.cues.move i .free .tail).clearFired i).free.length) := by
      rw [answerCueDiscard, cueOf_index index]
    refine ⟨fun free => ?_, fun placed => ?_⟩
    · exact s.request_refused taken (answer.trans (if_pos ((CuePool.listOf_free_iff ok).mpr free)))
    · obtain ⟨records, target, others⟩ := CuePool.discarded_lists ok placed
      have discarded := answer.trans (if_neg (mt (CuePool.listOf_free_iff ok).mp placed))
      rw [target, List.length_append, List.length_singleton] at discarded
      exact ⟨_, s.request_okay _ taken discarded, records, target, others⟩

end Sys2Proof.Machine

namespace Sys2Proof.Machine

/-! ## CUE READ, CUE LIST and CUE COLLECT (R132 to R134) -/

section
variable {p : CuePool}

theorem CuePool.pendingSet_nil (none : ∀ i : Fin 64, (p.records[i]).pending = false) : p.pendingSet = [] := by
  refine List.filter_eq_nil_iff.mpr fun i _ => ?_
  rw [none i]
  exact Bool.false_ne_true

/-- The head of the pending set is its lowest index. -/
theorem CuePool.pendingSet_cons {i : Fin 64} (pending : (p.records[i]).pending = true)
    (first : ∀ j : Fin 64, j < i → (p.records[j]).pending = false) : ∃ rest, p.pendingSet = i :: rest := by
  have found : (List.finRange 64).find? (fun j => (p.records[j]).pending) = some i := by
    refine List.find?_eq_some_iff_getElem.mpr ⟨pending, i.val, by simp, by simp, fun j below => ?_⟩
    have clear := first ⟨j, by omega⟩ below
    simpa using clear
  exact List.head?_eq_some_iff.mp ((List.head?_filter ..).trans found)

theorem CuePool.clearFired_self (i : Fin 64) : (p.clearFired i).records[i] = { p.records[i] with pending := false } := by
  change (p.records.set i _)[i] = _
  simp

end

theorem answerCueCollect_empty (s : State) (none : s.cues.pendingSet = []) : answerCueCollect [] s = s.refuse .empty := by
  rw [answerCueCollect, none]

theorem answerCueCollect_taken (s : State) {i : Fin 64} {rest : List (Fin 64)} (pending : s.cues.pendingSet = i :: rest) :
    answerCueCollect [] s = (s.setCues (s.cues.clearFired i)).okay
      (BitVec.ofNat 8 i.val :: bytesOf 2 (s.cues.records[i]).content.tag.toNat ++
        [BitVec.ofNat 8 (s.cues.listOf i).code, BitVec.ofNat 8 rest.length]) := by
  rw [answerCueCollect, pending]
  dsimp only
  rw [CuePool.clearFired_self]
  simp only [bytesOf_one_eq_ofNat, List.append_assoc]
  rfl

section
variable (s : State) {v : Byte} (params : List Byte)

theorem answerCueRead_index {i : Fin 64} (index : v.toNat = i.val) :
    answerCueRead [v] s = s.okay (s.cues.placeBytes i ++ (s.cues.records[i]).content.bytes ++
      [BitVec.ofNat 8 (boolCode (s.cues.records[i]).pending)]) := by
  rw [answerCueRead, cueOf_index index] <;> rfl

theorem answerCueRead_bad (h : 64 ≤ v.toNat) : answerCueRead [v] s = s.refuse .badParam := by
  rw [answerCueRead, cueOf_none h]

theorem answerCueList_of_code {list : CueList} (code : v.toNat = list.code) :
    answerCueList [v] s = s.okay (cueListBytes (s.cues.on list)) := by
  rw [answerCueList, fields_one, code]
  simp only [cueListOf_code]

theorem answerCueList_bad (h : 4 ≤ v.toNat) : answerCueList [v] s = s.refuse .badParam := by
  rw [answerCueList, fields_one]
  simp only [cueListOf_none h]

end

/-- Settles O58: the three queries of the pool, and the pending set counted by its list. -/
theorem cueReadListAndCollectAnswer : Obligations.CueReadListAndCollectAnswer := by
  refine ⟨fun s v taken => ⟨fun bad => ?_, fun i index => ?_⟩, fun s v taken => ⟨fun bad => ?_, fun list code => ?_⟩,
    fun s taken => ⟨fun none => ?_, fun i pending first => ?_⟩⟩
  · exact s.request_refused taken (answerCueRead_bad s bad)
  · exact s.request_okay _ taken (answerCueRead_index s index)
  · exact s.request_refused taken (answerCueList_bad s bad)
  · exact s.request_okay _ taken (answerCueList_of_code s code)
  · exact s.request_refused taken (answerCueCollect_empty s (CuePool.pendingSet_nil none))
  · obtain ⟨rest, set⟩ := CuePool.pendingSet_cons pending first
    refine ⟨rest.length, ?_, s.request_okay _ taken (answerCueCollect_taken s set)⟩
    rw [List.countP_eq_length_filter]
    exact (congrArg List.length set).symm

/-! ## The actions of a firing cue (R143 to R148) -/

section
variable (s : State) (i : Fin 64)

theorem State.actSwap_taken (copy : Bool) (idle : s.banks.swap = none) :
    s.actSwap i copy = (s.setBanks { s.banks with swap := some copy }, []) := by
  simp only [State.actSwap, Banks.writeSwap, idle]

theorem State.actSwap_skipped (copy : Bool) (pending : s.banks.swap.isSome = true) :
    s.actSwap i copy = (s, [⟨2, .cueSkipped, BitVec.ofNat 8 i.val, 256⟩]) := by
  obtain ⟨_, swap⟩ := Option.isSome_iff_exists.mp pending
  simp only [State.actSwap, Banks.writeSwap, swap]
  rfl

/-- A HELD cue goes to the tail of ARMED. -/
theorem CuePool.move_held_armed {p : CuePool} (ok : p.ok) {j : Fin 64} (held : j ∈ p.held) :
    p.move j .armed .tail = { p with armed := p.armed ++ [j], held := p.held.erase j } := by
  have list : p.listOf j = .held := (p.listOf_iff ok j .held).mpr held
  unfold CuePool.move CuePool.remove
  rw [list]
  rfl

theorem State.actArm_taken {j : Fin 64} (ok : s.cues.ok) (held : j ∈ s.cues.held) :
    s.actArm i j = (s.setCues { s.cues with armed := s.cues.armed ++ [j], held := s.cues.held.erase j }, []) := by
  have list : s.cues.listOf j = .held := (s.cues.listOf_iff ok j .held).mpr held
  rw [State.actArm, if_pos list, CuePool.move_held_armed ok held]

/-- The list field is HELD only for a cue that stands on HELD. -/
theorem CuePool.mem_held {p : CuePool} {j : Fin 64} (list : p.listOf j = .held) : j ∈ p.held := by
  unfold CuePool.listOf at list
  split_ifs at list with armed held
  exact List.contains_iff_mem.mp held

theorem State.actArm_skipped {j : Fin 64} (other : j ∉ s.cues.held) :
    s.actArm i j = (s, [⟨2, .cueSkipped, BitVec.ofNat 8 i.val, BitVec.ofNat 16 (512 + j.val)⟩]) :=
  if_neg fun list => other (CuePool.mem_held list)

end

/-- Settles O60: the swap and the arming by what they find, the others as one write each. -/
theorem cueActionsReachTheirUnits : Obligations.CueActionsReachTheirUnits := fun s i =>
  ⟨fun copy => s.actSwap_taken i copy, fun copy => s.actSwap_skipped i copy, fun _ _ => rfl, fun _ => rfl, fun _ => rfl,
    fun _ => s.actArm_taken i, fun _ => s.actArm_skipped i, rfl⟩

end Sys2Proof.Machine

namespace Sys2Proof.Machine

/-! ## One visit of the walk (R139 to R142) -/

theorem CueContent.fires_iff (c : CueContent) (f : Count) : c.fires f = true ↔ (f ^^^ c.trigger) &&& c.mask = 0 := beq_iff_eq

theorem State.visit_firing {f : Count} {a : State × List Post} {i : Fin 64}
    (h : (a.1.cues.records[i]).content.fires f = true) :
    State.visit f a i = ((a.1.fire i).1, a.2 ++ (a.1.fire i).2) := if_pos h

theorem State.visit_passed {f : Count} {a : State × List Post} {i : Fin 64}
    (h : (a.1.cues.records[i]).content.fires f = false) : State.visit f a i = a :=
  if_neg (Bool.eq_false_iff.mp h)

/-- What an action does to the pool: a HELD cue may join ARMED, and nothing else moves. -/
theorem State.act_pool {s : State} (ok : s.cues.ok) (i : Fin 64) (a : CueAction) :
    let q := (s.act i a).1.cues
    q.records = s.cues.records ∧ q.done = s.cues.done ∧ ∀ j ∈ s.cues.armed, j ∈ q.armed := by
  cases a with
  | swap copy =>
    cases swap : s.banks.swap with
    | none =>
      have acted : s.act i (.swap copy) = _ := s.actSwap_taken i copy swap
      rw [acted]
      exact ⟨rfl, rfl, fun _ => id⟩
    | some _ =>
      have acted : s.act i (.swap copy) = _ := s.actSwap_skipped i copy (by rw [swap]; rfl)
      rw [acted]
      exact ⟨rfl, rfl, fun _ => id⟩
  | arm j =>
    by_cases held : j ∈ s.cues.held
    · have acted : s.act i (.arm j) = _ := s.actArm_taken i ok held
      rw [acted]
      exact ⟨rfl, rfl, fun _ => List.mem_append_left _⟩
    · have acted : s.act i (.arm j) = _ := s.actArm_skipped i held
      rw [acted]
      exact ⟨rfl, rfl, fun _ => id⟩
  | fade | fadeHold | keyer | mark => exact ⟨rfl, rfl, fun _ => id⟩

/-- What becomes of the cues that a walk visits, and of all others, from one pool to the next. -/
structure Visited (f : Count) (ids : List (Fin 64)) (p q : CuePool) : Prop where
  fired : ∀ i ∈ ids, (p.records[i]).content.fires f = true →
    (q.records[i]).pending = true ∧ ((p.records[i]).content.repeats = false → i ∈ q.done) ∧
      ((p.records[i]).content.repeats = true → i ∈ q.armed)
  passed : ∀ i ∈ ids, (p.records[i]).content.fires f = false →
    i ∈ q.armed ∧ (q.records[i]).pending = (p.records[i]).pending
  others : ∀ i, i ∉ ids → (q.records[i]).pending = (p.records[i]).pending ∧ (i ∈ p.armed → i ∈ q.armed)
  done : p.done <+: q.done

theorem Visited.nil (f : Count) (p : CuePool) : Visited f [] p p :=
  ⟨fun _ h => (nomatch h), fun _ h => (nomatch h), fun _ _ => ⟨rfl, id⟩, List.prefix_refl _⟩

/-- A visit and the walk of the rest: no later visit touches the cue, and it leaves neither DONE nor ARMED again. -/
theorem Visited.cons {f : Count} {i : Fin 64} {ids : List (Fin 64)} {p q r : CuePool} (fresh : i ∉ ids)
    (content : ∀ j : Fin 64, (q.records[j]).content = (p.records[j]).content) (first : Visited f [i] p q)
    (rest : Visited f ids q r) : Visited f (i :: ids) p r := by
  have untouched : ∀ j ∈ ids, j ∉ [i] := fun j h e => fresh (List.mem_singleton.mp e ▸ h)
  refine ⟨fun j h fires => ?_, fun j h passes => ?_, fun j h => ?_, first.done.trans rest.done⟩
  · rcases List.mem_cons.mp h with rfl | later
    · obtain ⟨pending, once, repeated⟩ := first.fired j List.mem_cons_self fires
      obtain ⟨kept, armed⟩ := rest.others j fresh
      exact ⟨kept.trans pending, fun h => rest.done.subset (once h), fun h => armed (repeated h)⟩
    · rw [← content j] at fires ⊢
      exact rest.fired j later fires
  · rcases List.mem_cons.mp h with rfl | later
    · obtain ⟨armed, pending⟩ := first.passed j List.mem_cons_self passes
      obtain ⟨kept, stays⟩ := rest.others j fresh
      exact ⟨stays armed, kept.trans pending⟩
    · rw [← content j] at passes
      obtain ⟨armed, pending⟩ := rest.passed j later passes
      exact ⟨armed, pending.trans (first.others j (untouched j later)).1⟩
  · obtain ⟨other, notLater⟩ := not_or.mp (mt List.mem_cons.mpr h)
    obtain ⟨pendingFirst, armedFirst⟩ := first.others j (mt List.mem_singleton.mp other)
    obtain ⟨pendingRest, armedRest⟩ := rest.others j notLater
    exact ⟨pendingRest.trans pendingFirst, armedRest ∘ armedFirst⟩

theorem CuePool.setFired_self (p : CuePool) (i : Fin 64) : ((p.setFired i).records[i]).pending = true := by
  change ((p.records.set i _)[i]).pending = true
  simp

theorem CuePool.setFired_ne (p : CuePool) {i j : Fin 64} (h : j ≠ i) : (p.setFired i).records[j] = p.records[j] := by
  have ne : (i : Nat) ≠ j := fun e => h (Fin.ext e.symm)
  change (p.records.set i _)[j] = _
  simp [Vector.getElem_set_ne _ _ ne]

/-- The disposition of a cue of ARMED: a ONCE cue goes to the tail of DONE. -/
theorem CuePool.dispose_lists {p : CuePool} (ok : p.ok) {i : Fin 64} (armed : i ∈ p.armed) (repeats : Bool) :
    let q := p.dispose i repeats
    (repeats = false → i ∈ q.done) ∧ (repeats = true → i ∈ q.armed) ∧ (∀ j, j ≠ i → j ∈ p.armed → j ∈ q.armed) ∧
      p.done <+: q.done := by
  cases repeats with
  | true => exact ⟨nofun, fun _ => armed, fun _ _ => id, List.prefix_refl _⟩
  | false =>
    obtain ⟨-, target, others⟩ := CuePool.moved_lists ok i .done .tail
    have notDone : i ∉ p.on .done := CuePool.not_mem_on (l := .armed) ok armed nofun
    rw [List.erase_of_not_mem notDone] at target
    have done : (p.dispose i false).done = p.done ++ [i] := target
    have stays : (p.dispose i false).armed = p.armed.erase i := others .armed nofun
    refine ⟨fun _ => ?_, nofun, fun j other h => ?_, ?_⟩
    · rw [done]
      exact List.mem_append_right _ (List.mem_singleton_self i)
    · rw [stays]
      exact (List.mem_erase_of_ne other).mpr h
    · rw [done]
      exact List.prefix_append ..

/-- A firing makes a cue of ARMED pending and disposes of it. -/
theorem Visited.fire {f : Count} {s : State} (ok : s.cues.ok) {i : Fin 64} (armed : i ∈ s.cues.armed)
    (fires : (s.cues.records[i]).content.fires f = true) : Visited f [i] s.cues (s.fire i).1.cues := by
  obtain ⟨acted, free⟩ := State.act_walked ok i (s.cues.records[i]).content.action
  obtain ⟨records, done, armedActed⟩ := State.act_pool ok i (s.cues.records[i]).content.action
  change Visited f [i] s.cues (((s.act i (s.cues.records[i]).content.action).1.cues.setFired i).dispose i _)
  generalize (s.act i (s.cues.records[i]).content.action).1.cues = p at acted free records done armedActed
  have notFree : i ∉ p.free := CuePool.not_mem_on (l := .armed) (m := .free) acted (armedActed i armed) nofun
  have fired : (p.setFired i).ok := CuePool.setRecord_ok acted i fun h => absurd h notFree
  obtain ⟨once, repeated, others, prior⟩ := CuePool.dispose_lists fired (armedActed i armed) (s.cues.records[i]).content.repeats
  refine ⟨fun j h _ => ?_, fun j h passes => ?_, fun j h => ⟨?_, fun on => ?_⟩, ?_⟩
  · obtain rfl := List.mem_singleton.mp h
    rw [CuePool.dispose_records, CuePool.setFired_self]
    exact ⟨rfl, once, repeated⟩
  · obtain rfl := List.mem_singleton.mp h
    rw [fires] at passes
    nomatch passes
  · have other : j ≠ i := mt List.mem_singleton.mpr h
    rw [CuePool.dispose_records, p.setFired_ne other, records]
  · exact others j (mt List.mem_singleton.mpr h) (armedActed j on)
  · rw [← done]
    exact prior

theorem Visited.visit {f : Count} {a : State × List Post} (ok : a.1.cues.ok) {i : Fin 64} (armed : i ∈ a.1.cues.armed) :
    Visited f [i] a.1.cues (State.visit f a i).1.cues := by
  cases fires : (a.1.cues.records[i]).content.fires f with
  | true =>
    rw [State.visit_firing fires]
    exact .fire ok armed fires
  | false =>
    rw [State.visit_passed fires]
    refine ⟨fun j h fires' => ?_, fun j h _ => ?_, fun _ _ => ⟨rfl, id⟩, List.prefix_refl _⟩
    · obtain rfl := List.mem_singleton.mp h
      rw [fires] at fires'
      nomatch fires'
    · obtain rfl := List.mem_singleton.mp h
      exact ⟨armed, rfl⟩

theorem State.visit_walked {f : Count} {a : State × List Post} (ok : a.1.cues.ok) {i : Fin 64} (hi : i ∉ a.1.cues.free) :
    a.1.cues.walked (State.visit f a i).1.cues :=
  State.foldl_visit_walked f [i] a ok fun _ h => List.mem_singleton.mp h ▸ hi

/-- The walk of cues that stand on ARMED, each once. -/
theorem Visited.foldl {f : Count} {ids : List (Fin 64)} {a : State × List Post} (ok : a.1.cues.ok) (once : ids.Nodup)
    (armed : ∀ i ∈ ids, i ∈ a.1.cues.armed) : Visited f ids a.1.cues (ids.foldl (State.visit f) a).1.cues := by
  induction ids generalizing a with
  | nil => exact .nil f _
  | cons i ids ih =>
    obtain ⟨fresh, once⟩ := List.nodup_cons.mp once
    have on : i ∈ a.1.cues.armed := armed i List.mem_cons_self
    have first : Visited f [i] a.1.cues (State.visit f a i).1.cues := .visit ok on
    have ok' := (State.visit_walked (f := f) ok (CuePool.not_mem_on (l := .armed) (m := .free) ok on nofun)).1
    refine .cons fresh (WalkKeeps.visit f a i).content first (ih ok' once fun j later => ?_)
    have other : j ∉ [i] := fun e => fresh (List.mem_singleton.mp e ▸ later)
    exact (first.others j other).2 (armed j (List.mem_cons_of_mem _ later))

/-- Settles O59: the visit by its test, the firing by its four steps, and the walk by what each visit leaves to the next. -/
theorem walkFiresMatchingArmedCues : Obligations.WalkFiresMatchingArmedCues := by
  refine ⟨fun s f i ps => ⟨CueContent.fires_iff _ f, fun other => ?_, fun match' => ?_⟩, fun s i => ⟨rfl, rfl⟩, fun _ _ => rfl,
    fun s f ok => ?_⟩
  · exact State.visit_passed (Bool.eq_false_iff.mpr (mt (CueContent.fires_iff _ f).mp other))
  · exact State.visit_firing ((CueContent.fires_iff _ f).mpr match')
  · have walked : Visited f s.cues.armed s.cues (s.walk f).1.cues :=
      Visited.foldl (a := (s, [])) ok (s.cues.on_nodup ok .armed) fun _ => id
    exact ⟨(WalkKeeps.walk s f).content, walked.fired, walked.passed, fun i h => (walked.others i h).1,
      (State.walk_walked ok f).2, walked.done⟩

end Sys2Proof.Machine

namespace Sys2Proof.Machine

/-! ## A reference line written (R69, R70) -/

section
variable {st : Store} {k : Key} {i j : Fin 8}

theorem Store.supersede_slots (ok : st.slotsOk) (k : Key) (j : Fin 8) :
    (st.supersede k).slots[j] = if st.role j = .filled ∧ (st.slots[j]).key = k then Slot.cleared else st.slots[j] := by
  unfold Store.supersede
  split
  · next i found =>
    obtain ⟨role, key⟩ := Store.lookUp_some found
    rw [Store.freeSlot_slots]
    have same : j = i ↔ st.role j = .filled ∧ (st.slots[j]).key = k :=
      ⟨fun e => e ▸ ⟨role, key⟩, fun h => ok.1 j i h.1 role (h.2.trans key.symm)⟩
    simp only [same]
  · next absent => rw [if_neg fun h => Store.lookUp_none.mp absent j h.1 h.2]

theorem Store.supersede_free (ok : st.slotsOk) (k : Key) (j : Fin 8) :
    (st.supersede k).role j = .free ↔ st.role j = .free ∨ (st.role j = .filled ∧ (st.slots[j]).key = k) := by
  rw [Store.role, Store.supersede_slots ok]
  split
  · next h => exact ⟨fun _ => .inr h, fun _ => rfl⟩
  · next h => exact ⟨.inl, fun h' => h'.elim id fun e => absurd e h⟩

/-- With no FILLED slot of the key the store stands. -/
theorem Store.supersede_absent (absent : ∀ j, ¬(st.role j = .filled ∧ (st.slots[j]).key = k)) : st.supersede k = st := by
  have none : st.lookUp k = none := Store.lookUp_none.mpr fun j role key => absent j ⟨role, key⟩
  unfold Store.supersede
  rw [none]

theorem Store.choose_free (role : st.role i = .free) (first : ∀ j, j < i → st.role j ≠ .free) : st.choose = (some i, false) := by
  have found : (List.finRange 8).find? (fun j => st.role j = .free) = some i := by
    refine List.find?_eq_some_iff_getElem.mpr ⟨by simpa using role, i.val, by simp, by simp, fun j below => ?_⟩
    have taken := first ⟨j, by omega⟩ below
    simpa using taken
  unfold Store.choose
  rw [found]

theorem Store.oldest_exists (st : Store) {is : List (Fin 8)} (h : is ≠ []) : ∃ i, st.oldest is = some i := by
  cases is with
  | nil => exact absurd rfl h
  | cons i is =>
    unfold Store.oldest
    split
    · exact ⟨_, rfl⟩
    · split <;> exact ⟨_, rfl⟩

/-- A store with no FREE slot holds FILLED ones, for one slot alone is SHOWN. -/
theorem Store.filled_of_full (ok : st.slotsOk) (full : ∀ j, st.role j ≠ .free) : st.filled ≠ [] := by
  have one : st.role 0 = .filled ∨ st.role 1 = .filled := by
    cases zero : st.role 0 with
    | free => exact absurd zero (full 0)
    | filled => exact .inl rfl
    | shown =>
      cases first : st.role 1 with
      | free => exact absurd first (full 1)
      | filled => exact .inr rfl
      | shown => nomatch Option.some.inj (((ok.2.1 0).mp zero).symm.trans ((ok.2.1 1).mp first))
  rcases one with h | h <;> exact List.ne_nil_of_mem ((st.mem_filled _).mpr h)

theorem Store.choose_full (ok : st.slotsOk) (full : ∀ j, st.role j ≠ .free) :
    ∃ i, st.choose = (some i, true) ∧ st.role i = .filled ∧ ∀ j, st.role j = .filled → st.age j ≤ st.age i := by
  obtain ⟨i, oldest⟩ := st.oldest_exists (Store.filled_of_full ok full)
  obtain ⟨mem, least⟩ := st.oldest_some _ i oldest
  have none : (List.finRange 8).find? (fun j => st.role j = .free) = none :=
    List.find?_eq_none.mpr fun j _ => by simpa using full j
  refine ⟨i, ?_, (st.mem_filled i).mp mem, fun j role => least j ((st.mem_filled j).mpr role)⟩
  unfold Store.choose
  rw [none, oldest]

theorem Store.fill_supersede_eq (st : Store) (i : Fin 8) (k : Key) (l : RefLine) :
    (st.supersede k).fill i k l = { st with
      slots := ((st.supersede k).fill i k l).slots, seq := st.seq + 1
      sampling := if l.synthetic then none else some ⟨i, l.stamp⟩ } := by
  unfold Store.supersede
  split <;> rfl

theorem Store.supersede_seq (st : Store) (k : Key) : (st.supersede k).seq = st.seq := by
  unfold Store.supersede
  split <;> rfl

end

section
variable {s : State} {l : RefLine} {k : Key} {i : Fin 8}

theorem State.storeWrite_idle (idle : s.store.active = false) : s.storeWrite l = s :=
  if_neg (Bool.eq_false_iff.mp idle)

theorem State.storeWrite_unnumbered (active : s.store.active = true) (unnumbered : l.key = none) :
    s.storeWrite l = s.setStore { s.store with sampling := none } := by
  rw [State.storeWrite, if_pos active, unnumbered]

theorem State.storeWrite_kept (active : s.store.active = true) (key : l.key = some k)
    (chosen : (s.store.supersede k).choose = (some i, false)) : s.storeWrite l = s.setStore ((s.store.supersede k).fill i k l) := by
  rw [State.storeWrite, if_pos active, key]
  simp only [chosen]
  rfl

theorem State.storeWrite_dropped (active : s.store.active = true) (key : l.key = some k)
    (chosen : (s.store.supersede k).choose = (some i, true)) :
    s.storeWrite l = ((s.setStore ((s.store.supersede k).fill i k l)).post
      (storePost .drop 1 (((s.store.supersede k).slots[i]).key).code)).latch condSlip := by
  rw [State.storeWrite, if_pos active, key]
  simp only [chosen]
  rfl

end

/-- Settles O46: the chosen slot by whether one is FREE after the line of the same key has gone. -/
theorem storeWriteFillsOneSlot : Obligations.StoreWriteFillsOneSlot := by
  refine ⟨fun s l => ⟨State.storeWrite_idle, State.storeWrite_unnumbered⟩, fun s l k key ok active => ?_⟩
  intro free
  have free_iff (j : Fin 8) : (s.store.supersede k).role j = .free ↔ free j := Store.supersede_free ok k j
  have stands (i : Fin 8) : ((s.store.supersede k).fill i k l).slots[i] =
        ⟨.filled, k, s.store.seq, l.synthetic, l.step.isSome, []⟩ ∧
      (∀ j : Fin 8, j ≠ i → ((s.store.supersede k).fill i k l).slots[j] =
        if s.store.role j = .filled ∧ (s.store.slots[j]).key = k then Slot.cleared else s.store.slots[j]) ∧
      (s.store.supersede k).fill i k l = { s.store with
        slots := ((s.store.supersede k).fill i k l).slots, seq := s.store.seq + 1
        sampling := if l.synthetic then none else some ⟨i, l.stamp⟩ } := by
    refine ⟨?_, fun j other => ?_, s.store.fill_supersede_eq i k l⟩
    · rw [Store.fill_slots, if_pos rfl, Store.supersede_seq]
    · rw [Store.fill_slots, if_neg other, Store.supersede_slots ok]
  by_cases room : ∃ j, free j
  · obtain ⟨i, here, least⟩ := wellFounded_lt.has_min { j | free j } room
    have first : ∀ j, j < i → ¬free j := fun j below h => least j h below
    have chosen := Store.choose_free ((free_iff i).mpr here) fun j below => mt (free_iff j).mp (first j below)
    refine ⟨i, _, ?_, fun _ => ⟨here, first, State.storeWrite_kept active key chosen⟩, fun h => absurd here (h i), stands i⟩
    rw [chosen, decide_eq_false fun h => h i here]
  · have full : ∀ j, ¬free j := not_exists.mp room
    have same : s.store.supersede k = s.store := Store.supersede_absent fun j h => full j (.inr h)
    obtain ⟨i, chosen, role, oldest⟩ := Store.choose_full ok fun j h => full j (.inl h)
    have chosen' : (s.store.supersede k).choose = (some i, true) := by rw [same, chosen]
    refine ⟨i, _, ?_, fun h => absurd h room, fun _ => ⟨role, oldest, ?_⟩, stands i⟩
    · rw [chosen', decide_eq_true full]
    · rw [State.storeWrite_dropped active key chosen', same]
      rfl

end Sys2Proof.Machine

namespace Sys2Proof.Machine

/-! ## Sampling (R71) -/

theorem sampleDue_none {line reading : Stamp} (h : reading.toNat % 32 ≠ 0 ∨ stampDiff reading line - 3584 < 0) :
    sampleDue line reading = none :=
  if_neg fun ⟨instant, reached⟩ => h.elim (absurd instant) (Int.not_lt.mpr reached)

theorem sampleDue_some {line reading : Stamp} {k : Nat} (instant : reading.toNat % 32 = 0)
    (low : 32 * (k : Int) ≤ stampDiff reading line - 3584) (high : stampDiff reading line - 3584 < 32 * (k : Int) + 32) :
    sampleDue line reading = some k := by
  have number : ((stampDiff reading line - 3584) / 32).toNat = k := by omega
  unfold sampleDue
  rw [if_pos ⟨instant, by omega⟩, number]

section
variable {st : Store} {sp : Sampling} {reading : Stamp} {ref : Sample}

theorem Store.sampleTick_early (sampling : st.sampling = some sp) (due : sampleDue sp.stamp reading = none) :
    st.sampleTick reading ref = st := by
  unfold Store.sampleTick
  rw [sampling]
  simp only [due]

theorem Store.sampleTick_due {k : Nat} (sampling : st.sampling = some sp) (due : sampleDue sp.stamp reading = some k)
    (room : k < sampleRoom) :
    st.sampleTick reading ref =
      { st.setSlot sp.slot { st.slots[sp.slot] with samples := Samples.write (st.slots[sp.slot]).samples k ref } with
        sampling := if k + 1 = sampleRoom then none else some sp } := by
  unfold Store.sampleTick
  rw [sampling]
  simp only [due, if_pos room]

end

/-! ## Output (R75, R76) -/

section
variable {st : Store} (std : Standard) (lpix x : Nat) {i : Fin 8}

theorem Store.output_none (dark : st.shown = none) : st.output std lpix x = Sample.black := by
  unfold Store.output
  rw [dark]

theorem Store.output_some (shown : st.shown = some i) :
    st.output std lpix x = if (st.slots[i]).synthetic then Sample.black
      else if 0 ≤ sampleOfPixel std lpix st.hLine x ∧ sampleOfPixel std lpix st.hLine x < 640 then
        Samples.read (st.slots[i]).samples (sampleOfPixel std lpix st.hLine x).toNat
      else Sample.black := by
  unfold Store.output
  rw [shown]

end

/-- Settles O47: the sample's number by its instant, and the output by the slot shown. -/
theorem samplesArePlacedAndMappedToPixels : Obligations.SamplesArePlacedAndMappedToPixels := by
  refine ⟨fun st sp reading ref ok sampling => ⟨fun early => ?_, fun k instant room low high => ?_⟩,
    fun st std lpix x => ⟨Store.output_none std lpix x, fun i shown => ⟨fun synthetic => ?_, fun real outside => ?_,
      fun real low high => ?_⟩⟩⟩
  · exact Store.sampleTick_early sampling (sampleDue_none early)
  · obtain ⟨-, -, -, -, canonical⟩ := ok
    rw [Store.sampleTick_due sampling (sampleDue_some instant low high) room]
    have slots (j : Fin 8) := st.setSamples_slots sp.slot j (Samples.write (st.slots[sp.slot]).samples k ref)
    have read (j : Nat) := Samples.read_write (canonical sp.slot) k ref j
    dsimp only
    refine ⟨?_, fun j other => ?_, fun i other => ?_, ?_⟩
    · rw [slots, if_pos rfl, read, if_pos rfl]
    · rw [slots, if_pos rfl, read, if_neg other]
    · rw [slots, if_neg other]
    · have last : k + 1 = sampleRoom ↔ k = 639 := Nat.succ_inj
      simp only [last]
  · rw [Store.output_some std lpix x shown, if_pos synthetic]
  · rw [Store.output_some std lpix x shown, if_neg (Bool.eq_false_iff.mp real)]
    exact if_neg fun h => by
      unfold sampleOfPixel at h
      omega
  · rw [Store.output_some std lpix x shown, if_neg (Bool.eq_false_iff.mp real)]
    exact if_pos ⟨low, high⟩

end Sys2Proof.Machine

namespace Sys2Proof.Machine

/-! ## A generated line looked up (R72 to R74) -/

section
variable {st : Store} {k : Key} {i j : Fin 8}

theorem Store.olderThan_eq (st : Store) (i : Fin 8) :
    st.olderThan i = (List.finRange 8).filter fun j => st.role j = .filled ∧ st.age i < st.age j := by
  unfold Store.olderThan Store.filled
  rw [List.filter_filter]
  simp only [Bool.decide_and, Bool.and_comm]

theorem Store.found_shown (st : Store) (i : Fin 8) : (st.found i).shown = some i := by
  rw [Store.found_eq, Store.freeSlots_shown]
  rfl

/-- The FILLED slots that are as young as the found one stand. -/
theorem Store.found_slots_younger (ok : st.slotsOk) (other : j ≠ i) (role : st.role j = .filled) (younger : st.age j ≤ st.age i) :
    (st.found i).slots[j] = st.slots[j] := by
  have notOlder : j ∉ st.olderThan i := fun h => Nat.not_lt.mpr younger ((st.mem_olderThan i j).mp h).2
  have hidden : st.shown ≠ some j := Store.shown_ne_of_role ok (by rw [role]; exact nofun)
  rw [Store.found_eq, Store.freeSlots_slots, if_neg notOlder, Store.present_slots, if_neg other, Store.freeShown_slots,
    if_neg hidden]

theorem Store.found_slots_self (ok : st.slotsOk) (role : st.role i = .filled) :
    (st.found i).slots[i] = { st.slots[i] with role := .shown } := by
  have notOlder : i ∉ st.olderThan i := fun h => Nat.lt_irrefl _ ((st.mem_olderThan i i).mp h).2
  have hidden : st.shown ≠ some i := Store.shown_ne_of_role ok (by rw [role]; exact nofun)
  rw [Store.found_eq, Store.freeSlots_slots, if_neg notOlder, Store.present_slots, if_pos rfl, Store.freeShown_slots,
    if_neg hidden]

theorem Store.found_role_older (role : st.role j = .filled) (older : st.age i < st.age j) : (st.found i).role j = .free := by
  rw [Store.role, Store.found_eq, Store.freeSlots_slots, if_pos ((st.mem_olderThan i j).mpr ⟨role, older⟩)]
  rfl

theorem Store.found_role_shown (ok : st.slotsOk) (found : st.role i = .filled) (role : st.role j = .shown) :
    (st.found i).role j = .free := by
  have notOlder : j ∉ st.olderThan i := fun h => by
    have filled := ((st.mem_olderThan i j).mp h).1
    rw [role] at filled
    nomatch filled
  have other : j ≠ i := by
    rintro rfl
    rw [role] at found
    nomatch found
  rw [Store.role, Store.found_eq, Store.freeSlots_slots, if_neg notOlder, Store.present_slots, if_neg other,
    Store.freeShown_slots, if_pos ((ok.2.1 j).mp role)]
  rfl

/-- With no FILLED slot, the SHOWN one freed leaves every slot FREE. -/
theorem Store.freeShown_role_starved (ok : st.slotsOk) (starved : ∀ i, st.role i ≠ .filled) (j : Fin 8) :
    st.freeShown.role j = .free := by
  rw [Store.freeShown_role]
  split
  · rfl
  · next hidden =>
    cases role : st.role j with
    | free => rfl
    | filled => exact absurd role (starved j)
    | shown => exact absurd ((ok.2.1 j).mp role) hidden

end

section
variable {s : State} {k : Key} {i : Fin 8}

theorem State.storeLookUp_found (found : s.store.lookUp k = some i) :
    (s.storeLookUp k).2 = true ∧ (s.storeLookUp k).1.store = s.store.found i ∧
    (s.store.olderThan i = [] → (s.storeLookUp k).1 = s.setStore (s.store.found i)) ∧
    (s.store.olderThan i ≠ [] → ∃ j ∈ s.store.olderThan i, (∀ j' ∈ s.store.olderThan i, s.store.age j' ≤ s.store.age j) ∧
      (s.storeLookUp k).1 = ((s.setStore (s.store.found i)).post
        (storePost .drop (s.store.olderThan i).length (s.store.slots[j]).key.code)).latch condSlip) := by
  unfold State.storeLookUp
  rw [found]
  dsimp only
  by_cases older : s.store.olderThan i = []
  · rw [older]
    exact ⟨rfl, rfl, fun _ => rfl, fun h => absurd rfl h⟩
  · obtain ⟨j, oldest⟩ := s.store.oldest_exists older
    obtain ⟨mem, least⟩ := s.store.oldest_some _ j oldest
    rw [oldest]
    exact ⟨rfl, rfl, fun h => absurd h older, fun _ => ⟨j, mem, least, rfl⟩⟩

theorem State.storeLookUp_repeated (absent : s.store.lookUp k = none) (waiting : s.store.filled ≠ []) :
    s.storeLookUp k =
      ((s.post (storePost .repeated (boolCode s.store.shown.isSome) k.code)).latch condSlip, false) := by
  unfold State.storeLookUp
  rw [absent]
  exact if_neg fun h => waiting (List.isEmpty_iff.mp h)

theorem State.storeLookUp_starved (starved : s.store.filled = []) :
    s.storeLookUp k = (s.setStore s.store.freeShown, false) := by
  have absent : s.store.lookUp k = none := by
    unfold Store.lookUp
    rw [starved]
    rfl
  unfold State.storeLookUp
  rw [absent]
  exact if_pos (by rw [starved]; rfl)

end

/-- Settles O48: found, repeated and starved, by the FILLED slot that holds the key. -/
theorem storeReadFindsRepeatsOrStarves : Obligations.StoreReadFindsRepeatsOrStarves := by
  refine fun s k ok => ⟨fun i role key => ?_, fun absent ⟨i, role⟩ => ?_, fun starved => ?_⟩
  · obtain ⟨hit, store, alone, dropped⟩ := State.storeLookUp_found (Store.lookUp_eq ok role key)
    rw [Store.olderThan_eq] at alone dropped
    rw [store]
    exact ⟨hit, s.store.found_shown i, Store.found_slots_self ok role, fun j => Store.found_slots_younger ok,
      fun j => Store.found_role_older, fun j => Store.found_role_shown ok role, alone, dropped⟩
  · refine (State.storeLookUp_repeated (Store.lookUp_none.mpr absent) (List.ne_nil_of_mem ((s.store.mem_filled i).mpr role))).trans ?_
    cases s.store.shown <;> rfl
  · have none : s.store.filled = [] := List.eq_nil_iff_forall_not_mem.mpr fun i h => starved i ((s.store.mem_filled i).mp h)
    rw [State.storeLookUp_starved none]
    exact ⟨rfl, s.store.freeShown_shown, Store.freeShown_role_starved ok starved, rfl⟩

end Sys2Proof.Machine

namespace Sys2Proof.Machine

/-! ## The transition after an update (R51, R52) -/

section
variable (s : State)

theorem State.testUpdate_timing : s.testUpdate.1.timing = s.timing := by
  obtain h | ⟨h, -⟩ | ⟨h, -⟩ := s.testUpdate_cases <;> rw [h]
  · exact State.changeLock_timing ..
  · exact State.changeLock_timing ..

theorem State.testUpdate_reports : s.testUpdate.1.reports = s.reports := by
  obtain h | ⟨h, -⟩ | ⟨h, -⟩ := s.testUpdate_cases <;> rw [h]
  · exact State.changeLock_reports ..
  · exact State.changeLock_reports ..

/-- The transition posts the change of lock state, and sets no K. -/
theorem State.testUpdate_posts : s.testUpdate.2 = changePosts s.engine.lock s.testUpdate.1.engine.lock false false := by
  obtain h | ⟨h, -⟩ | ⟨h, -⟩ := s.testUpdate_cases <;> rw [h]
  · simp [changePosts]
  · rw [State.enterLocked_engine]
    exact State.changeLock_changePosts ..
  · rw [State.dropLock_engine]
    exact State.changeLock_changePosts ..

/-- The store is active already, so the change of lock state between ACQUIRE and LOCKED keeps it (R68). -/
theorem State.testUpdate_store (active : s.engine.lock = .acquire ∨ s.engine.lock = .locked → s.store.active = true) :
    s.testUpdate.1.store = s.store := by
  obtain h | ⟨h, acquire, -⟩ | ⟨h, locked, -⟩ := s.testUpdate_cases <;> rw [h]
  · exact (State.changeLock_store ..).trans (s.store.handed_kept rfl (active (.inl acquire)))
  · exact (State.changeLock_store ..).trans (s.store.handed_kept rfl (active (.inr locked)))

theorem State.testUpdate_recorded (recorded : s.mixer.recorded = s.engine.lock) :
    s.testUpdate.1.mixer.recorded = s.testUpdate.1.engine.lock := by
  obtain h | ⟨h, -⟩ | ⟨h, -⟩ := s.testUpdate_cases <;> rw [h]
  · exact recorded
  · rw [State.enterLocked_engine]
    exact congrArg Mixer.recorded (State.changeLock_mixer ..)
  · rw [State.dropLock_engine]
    exact congrArg Mixer.recorded (State.changeLock_mixer ..)

theorem State.testUpdate_acquire (acquire : s.engine.lock = .acquire) : s.testUpdate.1.engine =
    if s.engine.nLock ≤ s.engine.lockRun ∧ s.engine.vmatch = true then
      { s.engine with lock := .locked, unlocked := false, dropRun := 0, missRun := 0 }
    else s.engine := by
  rw [State.testUpdate, acquire]
  dsimp only
  unfold State.testLocked
  by_cases h : s.engine.nLock ≤ s.engine.lockRun ∧ s.engine.vmatch = true
  · rw [if_pos h, if_pos ⟨acquire, h⟩, State.enterLocked_engine]
  · rw [if_neg h, if_neg fun c => h c.2]

theorem State.testUpdate_locked (locked : s.engine.lock = .locked) : s.testUpdate.1.engine =
    if s.engine.nUnlock ≤ s.engine.dropRun then
      { s.engine with lock := .acquire, unlocked := true, lockRun := 0, vmatch := false, dropRun := 0, missRun := 0 }
    else s.engine := by
  rw [State.testUpdate, locked]
  dsimp only
  split
  · rw [State.dropLock_engine]
  · rfl

end

theorem changePosts_unset_length (old new : LockState) (atLimit : Bool) : (changePosts old new false atLimit).length ≤ 1 := by
  unfold changePosts
  rw [if_neg (c := false = true ∧ _) (fun h => nomatch h.1), List.append_nil]
  split <;> simp

/-! ## The measurement (R26 to R30) -/

section
variable (e : Engine) (step : Option Int) (err : Int)

/-- The offset that a measured line start gives (R30). -/
theorem Engine.takeStep_s : (e.takeStep step).s = match step, e.profile with
    | some sigma, .tape => clampInt (-8191) 8191 (e.s + sigma)
    | _, _ => e.s := by
  unfold Engine.takeStep
  split <;> simp_all

theorem Engine.clampActs_eq : e.clampActs err =
    decide (e.rawK err < e.k0 - e.kspan ∨ (e.k0 : Int) + e.kspan < e.rawK err) := (Bool.decide_or ..).symm

theorem Engine.limitPosts_queue : ∀ p ∈ e.limitPosts err, p.queue = 0 := by
  unfold Engine.limitPosts
  split_ifs
  · exact nofun
  all_goals
    intro p h
    rw [List.mem_singleton.mp h]
    rfl

theorem Engine.limitPosts_length : (e.limitPosts err).length ≤ 1 := by
  unfold Engine.limitPosts
  split_ifs <;> simp

theorem Engine.limitPosts_records (count : Count) : recordsOf count (e.limitPosts err) =
    if e.clampActs err = true ∧ e.atLimit = false then
      [⟨.atLimitEnter, count, if (e.k0 : Int) + e.kspan < e.rawK err then 1 else 2, BitVec.ofInt 16 err⟩]
    else if ¬e.clampActs err = true ∧ e.atLimit = true then [⟨.atLimitLeave, count, 0, BitVec.ofInt 16 err⟩]
    else [] := by
  unfold Engine.limitPosts recordsOf
  cases e.clampActs err <;> cases e.atLimit
  · rfl
  · rfl
  · simp only [Bool.true_eq_false, if_false, if_true, and_self, List.map_cons, List.map_nil, lockPostInt]
    congr 2
    split <;> rfl
  · rfl

theorem Engine.measureFrom_chosen {target g : Stamp} (chosen : chosenStart e.history target g) :
    e.measureFrom target = some g := by
  unfold Engine.measureFrom
  obtain ⟨newer, older, history, before, later⟩ | ⟨⟨newer, history⟩, later⟩ := chosen
  · have found : e.history.find? (fun x => decide (0 ≤ stampDiff target x)) = some g := by
      rw [history, List.find?_append, List.find?_eq_none.mpr fun x h => by simpa using later x h]
      simp [before]
    rw [found]
  · have none : e.history.find? (fun x => decide (0 ≤ stampDiff target x)) = none :=
      List.find?_eq_none.mpr fun x h => by simpa using later x h
    rw [none, history]
    exact List.getLast?_concat

end

/-- The queue of the lock engine after a measurement: the change of AT_LIMIT, then the change of lock state. -/
theorem State.postAll_testUpdate (s : State) (e : Engine) {ps : List Post} (lock : ∀ p ∈ ps, p.queue = 0) (short : ps.length ≤ 1)
    (room : (s.reports.queues[(0 : Fin 4)]).length ≤ 22) :
    let s1 := (s.setEngine e).postAll ps
    (s1.testUpdate.1.postAll s1.testUpdate.2).reports.queues[(0 : Fin 4)] = s.reports.queues[(0 : Fin 4)] ++
      recordsOf s.timing.count ps ++
      recordsOf s.timing.count (changePosts e.lock s1.testUpdate.1.engine.lock false false) := by
  intro s1
  have first : s1.reports.queues[(0 : Fin 4)] = s.reports.queues[(0 : Fin 4)] ++ recordsOf s.timing.count ps := by
    have posted := fun room => (s.setEngine e).postAll_recordsOf ps (q := 0) room
    rw [postsTo_all lock] at posted
    exact posted (by change (s.reports.queues[(0 : Fin 4)]).length + ps.length ≤ 24; omega)
  have engine : s1.engine = e := State.postAll_engine ..
  have second := fun room => s1.testUpdate.1.postAll_recordsOf s1.testUpdate.2 (q := 0) room
  rw [s1.testUpdate_posts, postsTo_all changePosts_queue, s1.testUpdate_reports, s1.testUpdate_timing, engine] at second
  rw [s1.testUpdate_posts, engine]
  refine (second ?_).trans ?_
  · have one := changePosts_unset_length e.lock s1.testUpdate.1.engine.lock false
    rw [first, List.length_append, recordsOf, List.length_map]
    omega
  · rw [first, State.postAll_timing]
    rfl

end Sys2Proof.Machine

namespace Sys2Proof.Machine

/-! ## A measurement as a whole (R26 to R35, R51, R52) -/

/-- The engine of an update with the error `err`, its limit and its runs aside. -/
theorem Engine.update_acts (e : Engine) (err : Int) : e.update err =
    { e with
      e := err, i := e.nextI err, k := (clampInt (e.k0 - e.kspan) (e.k0 + e.kspan) (e.rawK err)).toNat
      atLimit := decide (e.rawK err < e.k0 - e.kspan ∨ (e.k0 : Int) + e.kspan < e.rawK err) } := by
  rw [Engine.update_eq, Engine.clampActs_eq]
  rfl

theorem Engine.countRun_acquire {e : Engine} (acquire : e.lock = .acquire) :
    e.countRun = { e with lockRun := if e.e.natAbs ≤ e.wLock then countTo 1023 e.lockRun else 0 } := by
  rw [Engine.countRun, acquire]

theorem Engine.countRun_locked {e : Engine} (locked : e.lock = .locked) :
    e.countRun = { e with dropRun := if e.wDrop < e.e.natAbs then countTo 255 e.dropRun else 0 } := by
  rw [Engine.countRun, locked]

theorem Engine.countRun_lock (e : Engine) : e.countRun.lock = e.lock := by rw [Engine.countRun_eq]

/-- The state at the transition test of a measurement that has found a generated line start. -/
def State.updated (s : State) (e : Engine) (err : Int) : State :=
  (s.setEngine (e.update err).countRun).postAll (e.limitPosts err)

section
variable {s : State} {l : RefLine} {g : Stamp} (real : l.synthetic = false) (lock : s.engine.lock = .acquire ∨ s.engine.lock = .locked)
  (from' : (s.engine.takeStep l.step).measureFrom ((s.engine.takeStep l.step).target l.stamp) = some g) {e : Engine} {err : Int}
  (stepped : s.engine.takeStep l.step = e)
  (error : foldError (lnom s.timing.standard) (e.target l.stamp - g).toNat = err)
include real lock from' stepped error

theorem State.measure_updated :
    s.measure l = (s.updated e err).testUpdate.1.postAll (s.updated e err).testUpdate.2 := by
  subst stepped error
  exact s.measure_some l ⟨real, lock⟩ from'

theorem State.measure_timing : (s.measure l).timing = s.timing := by
  rw [State.measure_updated real lock from' stepped error, State.postAll_timing, State.testUpdate_timing]
  exact State.postAll_timing ..

theorem State.measure_engine : (s.measure l).engine = (s.updated e err).testUpdate.1.engine := by
  rw [State.measure_updated real lock from' stepped error, State.postAll_engine]

theorem State.measure_followers (ok : s.lockOk) :
    (s.measure l).store = s.store ∧ (s.measure l).mixer.recorded = (s.measure l).engine.lock := by
  obtain ⟨active, -, recorded, -⟩ := ok
  have stepLock : e.lock = s.engine.lock := by rw [← stepped, Engine.takeStep_eq]
  have updatedLock : (s.updated e err).engine.lock = s.engine.lock := by
    rw [State.updated, State.postAll_engine, ← stepLock]
    exact Engine.countRun_lock _
  rw [State.measure_updated real lock from' stepped error, State.postAll_store, State.postAll_mixer, State.postAll_engine]
  refine ⟨((s.updated e err).testUpdate_store fun _ => ?_).trans (State.postAll_store ..), (s.updated e err).testUpdate_recorded ?_⟩
  · rw [State.updated, State.postAll_store]
    exact active.mpr lock
  · rw [updatedLock, State.updated, State.postAll_mixer]
    exact recorded

theorem State.measure_queue (room : (s.reports.queues[(0 : Fin 4)]).length ≤ 22) :
    (s.measure l).reports.queues[(0 : Fin 4)] = s.reports.queues[(0 : Fin 4)] ++
      recordsOf s.timing.count (e.limitPosts err) ++
      recordsOf s.timing.count (changePosts s.engine.lock (s.measure l).engine.lock false false) := by
  have stepLock : (e.update err).countRun.lock = s.engine.lock := by
    rw [Engine.countRun_lock, ← stepped, Engine.update_eq, Engine.takeStep_eq]
  rw [State.measure_engine real lock from' stepped error, State.measure_updated real lock from' stepped error, ← stepLock]
  exact s.postAll_testUpdate _ (e.limitPosts_queue err) (e.limitPosts_length err) room

end

theorem State.takeFieldStart_eq (s : State) (f : RefField) :
    s.takeFieldStart f = (s.setEngine { s.engine with s := decayOffset s.engine.s }).setTiming
      { s.timing with jam := if s.engine.lock = .acquire ∧ f.synthetic = false then some ⟨f.parity, s.store.d, s.store.d⟩
        else s.timing.jam } := by
  unfold State.takeFieldStart
  dsimp only
  split <;> rfl

theorem decayOffset_zero : decayOffset 0 = 0 := rfl

theorem decayOffset_pos {v : Int} (h : 0 < v) : decayOffset v = v - max 1 ((v + 32) / 64) ∧ 0 ≤ decayOffset v := by
  have decayed : decayOffset v = v - max 1 ((v + 32) / 64) := by
    unfold decayOffset
    rw [if_neg (Int.ne_of_gt h)]
    dsimp only
    rw [if_pos h]
    omega
  exact ⟨decayed, by omega⟩

theorem decayOffset_neg {v : Int} (h : v < 0) : decayOffset v = v + max 1 ((-v + 32) / 64) ∧ decayOffset v ≤ 0 := by
  have decayed : decayOffset v = v + max 1 ((-v + 32) / 64) := by
    unfold decayOffset
    rw [if_neg (Int.ne_of_lt h)]
    dsimp only
    rw [if_neg (by omega)]
    omega
  exact ⟨decayed, by omega⟩

/-- Settles O34: the measurement by its update, its runs and the transition tested after them. -/
theorem measurementAndDecayMoveLoop : Obligations.MeasurementAndDecayMoveLoop := by
  refine ⟨fun s l unmeasured => ?_, fun s l real lock => ?_, fun s f => s.takeFieldStart_eq f,
    fun v => ⟨fun zero => zero ▸ decayOffset_zero, decayOffset_pos, decayOffset_neg⟩⟩
  · refine s.measure_none l fun ⟨real, lock⟩ => ?_
    rcases unmeasured with synthetic | ⟨notAcquire, notLocked⟩
    · rw [synthetic] at real
      nomatch real
    · exact lock.elim notAcquire notLocked
  · intro offset target
    have stepped : s.engine.takeStep l.step = { s.engine with s := offset } :=
      (s.engine.takeStep_eq l.step).trans (congrArg (fun v => { s.engine with s := v }) (s.engine.takeStep_s l.step))
    refine ⟨fun empty => ?_, fun g chosen => ?_⟩
    · rw [← stepped]
      refine s.measure_empty l ⟨real, lock⟩ ?_
      rw [stepped, Engine.measureFrom, empty]
      rfl
    · have from' : (s.engine.takeStep l.step).measureFrom ((s.engine.takeStep l.step).target l.stamp) = some g := by
        rw [stepped]
        exact Engine.measureFrom_chosen _ chosen
      intro err pair i raw acts updated
      have half := s.measure_lockHalf l
      have engine := State.measure_engine real lock from' stepped (err := err) rfl
      refine ⟨half.1.1, State.measure_timing real lock from' stepped (err := err) rfl, half.1.2.1, half.2,
        State.measure_followers real lock from' stepped (err := err) rfl, fun room => ?_, fun acquire => ?_, fun locked => ?_⟩
      · have queue := State.measure_queue real lock from' stepped (err := err) rfl room
        rw [Engine.limitPosts_records, Engine.clampActs_eq] at queue
        simp only [decide_eq_true_eq] at queue
        exact queue
      · intro run
        have now : (s.updated { s.engine with s := offset } err).engine = { updated with lockRun := run } := by
          rw [State.updated, State.postAll_engine, State.setEngine_engine, Engine.update_acts]
          exact Engine.countRun_acquire acquire
        have tested := State.testUpdate_acquire (s.updated { s.engine with s := offset } err) (by rw [now]; exact acquire)
        rw [now] at tested
        exact engine.trans tested
      · intro run
        have now : (s.updated { s.engine with s := offset } err).engine = { updated with dropRun := run } := by
          rw [State.updated, State.postAll_engine, State.setEngine_engine, Engine.update_acts]
          exact Engine.countRun_locked locked
        have tested := State.testUpdate_locked (s.updated { s.engine with s := offset } err) (by rw [now]; exact locked)
        rw [now] at tested
        exact engine.trans tested

end Sys2Proof.Machine

namespace Sys2Proof.Machine

/-! ## Pulse classes (R1, Table 1-A) -/

theorem pulseClass_noise {w : Nat} (h : w < 32) : pulseClass w = .noise := if_pos h

theorem pulseClass_short {w : Nat} (low : 32 ≤ w) (high : w < 84) : pulseClass w = .short := by
  rw [pulseClass, if_neg (Nat.not_lt.mpr low), if_pos high]

theorem pulseClass_line {w : Nat} (low : 84 ≤ w) (high : w < 192) : pulseClass w = .line := by
  rw [pulseClass, if_neg (by omega), if_neg (Nat.not_lt.mpr low), if_pos high]

theorem pulseClass_broad {w : Nat} (low : 192 ≤ w) (high : w < 960) : pulseClass w = .broad := by
  rw [pulseClass, if_neg (by omega), if_neg (by omega), if_neg (Nat.not_lt.mpr low), if_pos high]

theorem pulseClass_overlong {w : Nat} (h : 960 ≤ w) : pulseClass w = .overlong := by
  rw [pulseClass, if_neg (by omega), if_neg (by omega), if_neg (by omega), if_neg (Nat.not_lt.mpr h)]

/-! ## The commands that handle a pulse -/

section
variable {s : State} {x : Stamp}

theorem exec_syncPulse_inProgress (pulse : s.pulse = .inProgress x) (w : Nat) :
    exec (.syncPulse w) s = .next ((s.setPulse .idle).handlePulse (pulseClass w) x).settle := by
  change execSyncPulse w s = _
  rw [execSyncPulse, pulse]

theorem exec_overlongPulse_inProgress (pulse : s.pulse = .inProgress x) :
    exec .overlongPulse s = .next ((s.setPulse .handled).handlePulse .overlong x).settle := by
  change execOverlongPulse s = _
  rw [execOverlongPulse, pulse]

theorem State.handlePulse_search (search : s.classifier.tracking = .search) (cls : PulseClass) :
    s.handlePulse cls x = s.pulseInSearch cls x := by
  rw [State.handlePulse, search]

theorem State.handlePulse_track (track : s.classifier.tracking = .track) (cls : PulseClass) :
    s.handlePulse cls x = s.pulseInTrack cls x := by
  rw [State.handlePulse, track]

end

/-! ## A pulse in SEARCH (R3) -/

section
variable {s : State} {x c : Stamp}

theorem State.pulseInSearch_discards {cls : PulseClass} (h : cls = .short ∨ cls = .broad ∨ cls = .overlong) :
    s.pulseInSearch cls x = s.setClassifier { s.classifier with candidate := none } := by
  rcases h with rfl | rfl | rfl <;> rfl

theorem State.pulseInSearch_first (none' : s.classifier.candidate = none) :
    s.pulseInSearch .line x = s.setClassifier { s.classifier with candidate := some x } := by
  rw [State.pulseInSearch, none']

theorem State.pulseInSearch_unfair (candidate : s.classifier.candidate = some c)
    (unfair : spacingOk s.timing.standard (x - c).toNat = false) :
    s.pulseInSearch .line x = s.setClassifier { s.classifier with candidate := some x } := by
  rw [State.pulseInSearch, candidate]
  simp only [unfair]
  rfl

theorem State.pulseInSearch_fair (candidate : s.classifier.candidate = some c)
    (fair : spacingOk s.timing.standard (x - c).toNat = true) : s.pulseInSearch .line x = s.enterTrack x (x - c).toNat := by
  rw [State.pulseInSearch, candidate]
  simp only [fair]
  rfl

end

/-- Settles O35: the class by the width, then SEARCH's answer to it. -/
theorem searchJudgesPulsesAgainstCandidate : Obligations.SearchJudgesPulsesAgainstCandidate := by
  refine ⟨fun s x idle => ?_, fun s search => ?_, fun s x search pulse => ?_, fun s w handled => ?_,
    fun s x w search pulse => ?_⟩
  · change execPulseLeadingEdge x s = _
    rw [execPulseLeadingEdge, idle]
  · change execCandidateExpiry s = _
    rw [execCandidateExpiry, search]
  · rw [exec_overlongPulse_inProgress pulse, State.handlePulse_search (s := s.setPulse .handled) search,
      State.pulseInSearch_discards (.inr (.inr rfl))]
    rfl
  · change execSyncPulse w s = _
    rw [execSyncPulse, handled]
  · have judged (cls : PulseClass) : (s.setPulse .idle).handlePulse cls x = (s.setPulse .idle).pulseInSearch cls x :=
      State.handlePulse_search (s := s.setPulse .idle) search cls
    have taken := exec_syncPulse_inProgress pulse w
    rw [judged] at taken
    refine ⟨fun noise => ?_, fun other => ?_, fun ⟨low, high⟩ => ⟨fun none' => ?_, fun c candidate unfair => ?_⟩⟩
    · rw [taken, pulseClass_noise noise]
      rfl
    · have cls : pulseClass w = .short ∨ pulseClass w = .broad ∨ pulseClass w = .overlong := by
        rcases other with ⟨low, high⟩ | low
        · exact .inl (pulseClass_short low high)
        · rcases Nat.lt_or_ge w 960 with high | over'
          · exact .inr (.inl (pulseClass_broad low high))
          · exact .inr (.inr (pulseClass_overlong over'))
      rw [taken, State.pulseInSearch_discards cls]
      rfl
    · rw [taken, pulseClass_line low high, State.pulseInSearch_first (s := s.setPulse .idle) none']
      rfl
    · rw [taken, pulseClass_line low high, State.pulseInSearch_unfair (s := s.setPulse .idle) candidate
        (decide_eq_false (Nat.not_le.mpr unfair))]
      rfl

/-! ## Entry to TRACK (R4) -/

theorem stampAdd_natCast (a : Stamp) (n : Nat) : stampAdd a n = a + BitVec.ofNat 24 n := by
  rw [stampAdd, BitVec.ofInt_natCast]

/-- A line start without a key, outside ACQUIRE and LOCKED, touches at most the sampling of an active store. -/
theorem State.emitLine_unnumbered {s : State} {l : RefLine} (unnumbered : l.key = none) (acquire : s.engine.lock ≠ .acquire)
    (locked : s.engine.lock ≠ .locked) :
    ∃ st, s.emitLine l = s.setStore st ∧ (s.store.active = false → st = s.store) := by
  have unmeasured (t : State) (h : t.engine = s.engine) : t.measure l = t :=
    t.measure_none l fun ⟨_, lock⟩ => (h ▸ lock).elim acquire locked
  unfold State.emitLine
  cases active : s.store.active with
  | true =>
    rw [State.storeWrite_unnumbered active unnumbered]
    exact ⟨_, unmeasured _ rfl, nofun⟩
  | false =>
    rw [State.storeWrite_idle active]
    exact ⟨s.store, unmeasured s rfl, fun _ => rfl⟩

/-- Settles O36: the entry to TRACK, whose line start neither is written nor measured outside ACQUIRE and LOCKED. -/
theorem pairAtFairSpacingEntersTrack : Obligations.PairAtFairSpacingEntersTrack := by
  intro s x c w search pulse low high candidate fair tracking room lavg
  obtain ⟨-, unlocked⟩ := tracking
  obtain ⟨-, acquire, locked⟩ := unlocked search
  have taken := exec_syncPulse_inProgress pulse w
  rw [State.handlePulse_search (s := s.setPulse .idle) search, pulseClass_line low high,
    State.pulseInSearch_fair (s := s.setPulse .idle) candidate (decide_eq_true fair), State.enterTrack_eq] at taken
  dsimp only at taken
  obtain ⟨st, emitted, kept⟩ := State.emitLine_unnumbered (s := (((s.setPulse .idle).setClassifier _).post _)) (l := ⟨x, none, false, none⟩)
    rfl acquire locked
  rw [emitted] at taken
  have queue : (s.post (lockPost .refFound 0 0)).reports.queues[(0 : Fin 4)] =
      s.reports.queues[(0 : Fin 4)] ++ [⟨.refFound, s.timing.count, 0, 0⟩] :=
    s.postAll_recordsOf [lockPost .refFound 0 0] (q := 0) room
  refine ⟨_, taken, rfl, ?_, queue, rfl, rfl, fun ok => kept ?_⟩
  · have prediction : stampAdd x lavg = x + BitVec.ofNat 24 lavg := stampAdd_natCast x lavg
    rw [← prediction]
    rfl
  · exact Bool.eq_false_iff.mpr fun active => (ok.1.mp active).elim acquire locked

end Sys2Proof.Machine

namespace Sys2Proof.Machine

/-! ## What numbering a line start leaves of the classifier (R13, R14) -/

/-- The fields of the classifier that neither numbering nor a field start touches. -/
def Classifier.steady (c : Classifier) : Nat × Nat × Nat × Nat × Nat × Tracking × Bool :=
  (c.lavg, c.wn, c.ww, c.nloss, c.synthCount, c.tracking, c.closeHeld)

theorem State.startRefField_steady (s : State) (f : RefField) (n : Numbering) :
    (s.startRefField f n).classifier.steady = s.classifier.steady := by
  rw [State.startRefField_classifier, Classifier.startField, Classifier.judge_eq]
  rfl

theorem State.numberLine_steady (s : State) (x : Stamp) : (s.numberLine x).1.classifier.steady = s.classifier.steady := by
  unfold State.numberLine
  split
  · rfl
  · rfl
  · split
    · exact s.startRefField_steady ..
    · rfl

theorem State.numberBroad_steady (s : State) (x : Stamp) : (s.numberBroad x).1.classifier.steady = s.classifier.steady := by
  unfold State.numberBroad
  split
  · exact s.startRefField_steady ..
  · exact s.numberLine_steady x
  · exact State.numberLine_steady _ x

/-! ## An accepted pulse (R6, R7, R8, R11) -/

theorem pulseClass_broad_iff {w : Nat} (high : w < 960) : pulseClass w = .broad ↔ 192 ≤ w := by
  refine ⟨fun broad => ?_, fun low => pulseClass_broad low high⟩
  unfold pulseClass at broad
  split_ifs at broad with _ _ far
  exact Nat.not_lt.mp far

/-- The class of a pulse of 32 to 959 ticks, by its width, on the mid-line window and the field-sync run. -/
theorem Classifier.takeClass_width (c : Classifier) {w : Nat} (low : 32 ≤ w) (high : w < 960) : c.takeClass (pulseClass w) =
    { c with
      midLine := if w < 84 then true else if w < 192 then false else c.midLine
      syncRun := if 84 ≤ w ∧ w < 192 then false else c.syncRun } := by
  rcases Nat.lt_or_ge w 84 with short | notShort
  · rw [pulseClass_short low short, if_pos short, if_neg (by omega)]
    rfl
  · rcases Nat.lt_or_ge w 192 with line | broad
    · rw [pulseClass_line notShort line, if_neg (by omega), if_pos line, if_pos ⟨notShort, line⟩]
      rfl
    · rw [pulseClass_broad broad high, if_neg (by omega), if_neg (by omega), if_neg (by omega)]
      rfl

theorem Classifier.updateLavg_ordinary {c : Classifier} {a : Anchor} (std : Standard) (x : Stamp) (anchor : c.anchor = some a)
    (real : a.real = true) (ordinary : a.step = false) :
    c.updateLavg std x = { c with lavg := clampLavg std (c.lavg + sixteenthHalfAway ((x - a.stamp).toNat - (c.lavg : Int))) } := by
  unfold Classifier.updateLavg
  rw [anchor]
  simp [real, ordinary]

theorem Classifier.updateLavg_stands {c : Classifier} (std : Standard) (x : Stamp)
    (h : ∀ a, c.anchor = some a → a.real = false ∨ a.step = true) : c.updateLavg std x = c := by
  unfold Classifier.updateLavg
  split
  · next a anchor => rcases h a anchor with h | h <;> simp [h]
  · rfl

/-- The line start of a pulse of 32 to 959 ticks that is accepted, with the average it leaves. -/
theorem State.acceptGrid_width {s : State} {x : Stamp} {w lavg : Nat} {step : Option Int} (low : 32 ≤ w) (high : w < 960)
    (average : (if step.isNone then { s.classifier with synthCount := 0 }.updateLavg s.timing.standard x
      else { s.classifier with synthCount := 0 }) = { s.classifier with lavg := lavg, synthCount := 0 }) :
    s.acceptGrid (pulseClass w) x step =
      (let judged := s.setClassifier { s.classifier with
         lavg := lavg
         synthCount := 0
         midLine := if w < 84 then true else if w < 192 then false else s.classifier.midLine
         syncRun := if 84 ≤ w ∧ w < 192 then false else s.classifier.syncRun }
       let numbered := if 192 ≤ w then judged.numberBroad x else judged.numberLine x
       let line : RefLine := ⟨x, numbered.2, false, step⟩
       let t := (numbered.1.storeWrite line).measure line
       t.setClassifier { t.classifier with
         anchor := some ⟨x, true, step.isSome⟩
         prediction := some ⟨x + BitVec.ofNat 24 lavg, s.classifier.wn, s.classifier.ww⟩
         closeHeld := false }) := by
  have accepted : s.classifier.accept s.timing.standard (pulseClass w) x step.isNone = { s.classifier with
      lavg := lavg
      synthCount := 0
      midLine := if w < 84 then true else if w < 192 then false else s.classifier.midLine
      syncRun := if 84 ≤ w ∧ w < 192 then false else s.classifier.syncRun } := by
    rw [Classifier.accept, average, Classifier.takeClass_width _ low high]
  rw [State.acceptGrid_eq, accepted]
  simp only [pulseClass_broad_iff high]
  generalize hj : s.setClassifier _ = judged
  have steady : (if 192 ≤ w then judged.numberBroad x else judged.numberLine x).1.classifier.steady = judged.classifier.steady := by
    split
    · exact judged.numberBroad_steady x
    · exact judged.numberLine_steady x
  generalize (if 192 ≤ w then judged.numberBroad x else judged.numberLine x) = numbered at steady
  subst hj
  simp only [Classifier.steady, Prod.mk.injEq, State.setClassifier_classifier] at steady
  obtain ⟨average', narrow, wide, -⟩ := steady
  have kept : ((numbered.1.storeWrite ⟨x, numbered.2, false, step⟩).measure ⟨x, numbered.2, false, step⟩).classifier =
      numbered.1.classifier := State.emitLine_classifier ..
  rw [State.emitLine_classifier, kept, Classifier.anchorAt, Classifier.predict, stampAdd_natCast, average', narrow, wide]
  rfl

theorem State.acceptGrid_steady (s : State) (cls : PulseClass) (x : Stamp) (step : Option Int) :
    (s.acceptGrid cls x step).classifier.synthCount = 0 ∧
      (s.acceptGrid cls x step).classifier.tracking = s.classifier.tracking := by
  rw [State.acceptGrid_eq]
  obtain ⟨lavg, midLine, syncRun, accepted, -⟩ := s.classifier.accept_eq s.timing.standard cls x step.isNone
  dsimp only
  rw [accepted, State.setClassifier_classifier, State.emitLine_classifier]
  generalize hj : s.setClassifier { s.classifier with
    synthCount := 0, lavg := lavg, midLine := midLine, syncRun := syncRun } = judged
  have steady : (if cls = .broad then judged.numberBroad x else judged.numberLine x).1.classifier.steady =
      judged.classifier.steady := by
    split
    · exact judged.numberBroad_steady x
    · exact judged.numberLine_steady x
  subst hj
  simp only [Classifier.steady, Prod.mk.injEq, State.setClassifier_classifier] at steady
  obtain ⟨-, -, -, -, count, track, -⟩ := steady
  exact ⟨count, track⟩

/-! ## A pulse in TRACK (R6, Table 1-C) -/

section
variable {s : State} {x : Stamp} {p : Prediction}

theorem Classifier.inNarrow_eq {c : Classifier} (prediction : c.prediction = some p) :
    c.inNarrow x = decide ((stampDiff x p.stamp).natAbs ≤ 16 * p.wn) := by
  rw [Classifier.inNarrow, prediction]
  rfl

theorem Classifier.inWide_eq {c : Classifier} (prediction : c.prediction = some p) :
    c.inWide x = decide ((stampDiff x p.stamp).natAbs ≤ 16 * p.ww) := by
  rw [Classifier.inWide, prediction]
  rfl

/-- A pulse that is neither NOISE nor OVERLONG is judged by the mid-line window and then by the prediction's. -/
theorem State.pulseInTrack_grid {cls : PulseClass} (notNoise : cls ≠ .noise) (notOverlong : cls ≠ .overlong) :
    s.pulseInTrack cls x =
      if (cls = .short ∨ cls = .broad) ∧ s.classifier.inMidLine x = true then (s.midLinePulse cls x).releaseHeld
      else if s.classifier.inNarrow x then s.acceptGrid cls x none
      else if s.classifier.inWide x then s.acceptGrid cls x (s.classifier.prediction.map fun p => stampDiff x p.stamp)
      else (s.setClassifier s.classifier.countBad).releaseHeld := by
  cases cls with
  | noise => exact absurd rfl notNoise
  | overlong => exact absurd rfl notOverlong
  | short | line | broad => rfl

theorem pulseClass_ne_noise {w : Nat} (low : 32 ≤ w) : pulseClass w ≠ .noise := by
  rw [pulseClass, if_neg (Nat.not_lt.mpr low)]
  split_ifs <;> exact nofun

theorem pulseClass_ne_overlong {w : Nat} (high : w < 960) : pulseClass w ≠ .overlong := by
  unfold pulseClass
  split_ifs <;> exact nofun

/-- A pulse of 32 to 959 ticks that the mid-line window does not take is judged by the windows. -/
theorem State.pulseInTrack_windows {w : Nat} (low : 32 ≤ w) (high : w < 960) (prediction : s.classifier.prediction = some p)
    (outside : (84 ≤ w ∧ w < 192) ∨ s.classifier.inMidLine x = false) :
    s.pulseInTrack (pulseClass w) x =
      if (stampDiff x p.stamp).natAbs ≤ 16 * p.wn then s.acceptGrid (pulseClass w) x none
      else if (stampDiff x p.stamp).natAbs ≤ 16 * p.ww then s.acceptGrid (pulseClass w) x (some (stampDiff x p.stamp))
      else (s.setClassifier s.classifier.countBad).releaseHeld := by
  have notMid : ¬((pulseClass w = .short ∨ pulseClass w = .broad) ∧ s.classifier.inMidLine x = true) := by
    rintro ⟨cls, mid⟩
    rcases outside with ⟨lineLow, lineHigh⟩ | outside
    · rw [pulseClass_line lineLow lineHigh] at cls
      exact cls.elim nofun nofun
    · rw [outside] at mid
      nomatch mid
  rw [State.pulseInTrack_grid (pulseClass_ne_noise low) (pulseClass_ne_overlong high), if_neg notMid,
    Classifier.inNarrow_eq prediction, Classifier.inWide_eq prediction, prediction]
  simp only [decide_eq_true_eq, Option.map_some]

theorem State.stray_unheld (free : s.classifier.closeHeld = false) :
    (s.setClassifier s.classifier.countBad).releaseHeld = s.setClassifier s.classifier.countBad :=
  if_neg (Bool.eq_false_iff.mp free)

end

/-- Settles O37: the windows choose between an ordinary line start, a STEP one and a stray. -/
theorem trackJudgesPulsesByWindows : Obligations.TrackJudgesPulsesByWindows := by
  refine ⟨fun s x w p track pulse low high prediction outside => ?_, fun s x w track pulse free => ⟨fun noise => ?_, ?_⟩⟩
  · intro d accepted
    have taken := exec_syncPulse_inProgress pulse w
    rw [State.handlePulse_track (s := s.setPulse .idle) track,
      State.pulseInTrack_windows (s := s.setPulse .idle) low high prediction outside] at taken
    refine ⟨fun narrow => ⟨fun a anchor ⟨real, ordinary⟩ => ?_, fun stands => ?_⟩, fun notNarrow wide => ?_, fun window => ?_,
      fun notNarrow notWide free => ?_⟩
    · have average := Classifier.updateLavg_ordinary (c := { s.classifier with synthCount := 0 }) s.timing.standard x anchor real
        ordinary
      rw [if_pos narrow, State.acceptGrid_width (s := s.setPulse .idle) (step := none) low high average] at taken
      exact taken
    · have average := Classifier.updateLavg_stands (c := { s.classifier with synthCount := 0 }) s.timing.standard x stands
      rw [if_pos narrow, State.acceptGrid_width (s := s.setPulse .idle) (step := none) low high average] at taken
      exact taken
    · rw [if_neg (Nat.not_le.mpr notNarrow), if_pos wide,
        State.acceptGrid_width (s := s.setPulse .idle) (step := some _) (lavg := s.classifier.lavg) low high rfl] at taken
      exact taken
    · obtain ⟨step, accepts⟩ : ∃ step, (if (stampDiff x p.stamp).natAbs ≤ 16 * p.wn then
            (s.setPulse .idle).acceptGrid (pulseClass w) x none
          else if (stampDiff x p.stamp).natAbs ≤ 16 * p.ww then
            (s.setPulse .idle).acceptGrid (pulseClass w) x (some (stampDiff x p.stamp))
          else ((s.setPulse .idle).setClassifier (s.setPulse .idle).classifier.countBad).releaseHeld) =
          (s.setPulse .idle).acceptGrid (pulseClass w) x step := by
        by_cases narrow : (stampDiff x p.stamp).natAbs ≤ 16 * p.wn
        · exact ⟨none, if_pos narrow⟩
        · exact ⟨_, (if_neg narrow).trans (if_pos (window.resolve_left narrow))⟩
      rw [accepts] at taken
      obtain ⟨count, tracking⟩ := (s.setPulse .idle).acceptGrid_steady (pulseClass w) x step
      obtain ⟨keeps, idle, -⟩ := lockHalfOnly_acceptGrid (s.setPulse .idle) (pulseClass w) x step
      exact ⟨_, taken, idle, keeps, count, tracking.trans track⟩
    · rw [if_neg (Nat.not_le.mpr notNarrow), if_neg (Nat.not_le.mpr notWide), State.stray_unheld (s := s.setPulse .idle) free] at taken
      exact taken
  · rw [exec_syncPulse_inProgress pulse, pulseClass_noise noise, State.handlePulse_track (s := s.setPulse .idle) track]
    exact congrArg (fun t => Host.Outcome.next (State.settle t)) (if_neg (Bool.eq_false_iff.mp free))
  · rw [exec_overlongPulse_inProgress pulse, State.handlePulse_track (s := s.setPulse .handled) track]
    exact congrArg (fun t => Host.Outcome.next (State.settle t)) (State.stray_unheld (s := s.setPulse .handled) free)

end Sys2Proof.Machine

namespace Sys2Proof.Machine

/-! ## The loss of the reference (R10, R54) -/

section
variable {s : State}

/-- In ACQUIRE and LOCKED the loss is a change of lock state, to HOLDOVER or with Hmax 0 to FREE. -/
theorem State.takeLoss_tracking (lock : s.engine.lock = .acquire ∨ s.engine.lock = .locked) : s.takeLoss =
    (let e := { s.engine with qual := 0, lockRun := 0, dropRun := 0, missRun := 0 }
     if 1 ≤ s.engine.hmax then s.changeLock .holdover true { e with k := e.clampK (e.k0 - e.i), holdover := e.hmax }
     else s.changeLock .free true e.freeRun) := by
  unfold State.takeLoss
  rcases lock with lock | lock <;> rw [lock]

theorem State.takeLoss_unlocked (lock : s.engine.lock = .free ∨ s.engine.lock = .holdover) :
    s.takeLoss = (s.setEngine { s.engine with qual := 0 }, []) := by
  unfold State.takeLoss
  rcases lock with lock | lock <;> rw [lock]

theorem State.takeLoss_internal (lock : s.engine.lock = .internal) : s.takeLoss = (s, []) := by
  unfold State.takeLoss
  rw [lock]

theorem State.loseReference_engine : s.loseReference.engine = s.takeLoss.1.engine := by
  rw [State.loseReference_eq, State.postAll_engine]
  rfl

theorem State.loseReference_timing : s.loseReference.timing = s.takeLoss.1.timing := by
  rw [State.loseReference_eq, State.postAll_timing]
  rfl

theorem State.loseReference_store : s.loseReference.store = s.takeLoss.1.store := by
  rw [State.loseReference_eq, State.postAll_store]
  rfl

theorem State.loseReference_classifier : s.loseReference.classifier = s.classifier.lost := by
  rw [State.loseReference_eq, State.postAll_classifier]
  rfl

theorem State.takeLoss_queue : ∀ p ∈ s.takeLoss.2, p.queue = 0 := by
  unfold State.takeLoss
  split
  any_goals
    dsimp only
    split <;> rw [State.changeLock_changePosts] <;> exact changePosts_queue
  all_goals exact nofun

/-- The LOCK queue after a loss: REF_LOST, then the lock engine's reports. -/
theorem State.loseReference_queue (room : (s.reports.queues[(0 : Fin 4)]).length + 1 + s.takeLoss.2.length ≤ 24) :
    s.loseReference.reports.queues[(0 : Fin 4)] = s.reports.queues[(0 : Fin 4)] ++
      recordsOf s.timing.count (lockPost .refLost 0 0 :: s.takeLoss.2) := by
  have lost : (s.post (lockPost .refLost 0 0)).reports.queues[(0 : Fin 4)] =
      s.reports.queues[(0 : Fin 4)] ++ recordsOf s.timing.count [lockPost .refLost 0 0] :=
    s.postAll_recordsOf [lockPost .refLost 0 0] (q := 0) (by
      change _ + 1 ≤ 24
      omega)
  obtain ⟨⟨⟨-, timing, -⟩, -⟩, -⟩ := s.takeLoss_lockHalf
  have count : s.takeLoss.1.timing.count = s.timing.count := by rw [timing]
  rw [State.loseReference_eq]
  have posted := fun room => (((s.takeLoss.1.setClassifier s.classifier.lost).setReports
    (s.post (lockPost .refLost 0 0)).reports).postAll_recordsOf s.takeLoss.2 (q := 0) room)
  rw [postsTo_all s.takeLoss_queue, State.setReports_reports, lost, State.setReports_timing, State.setClassifier_timing,
    count] at posted
  refine (posted ?_).trans (List.append_assoc ..)
  rw [List.length_append]
  exact room

end

/-- A loss in ACQUIRE or LOCKED, as the change of lock state that it is. -/
theorem State.loseReference_change {s : State} {new : LockState} {e : Engine} (change : s.takeLoss = s.changeLock new true e)
    (cancels : new.cancelsJam = true) (idle : new.storeActive = false) :
    s.loseReference.engine = { e with lock := new, unlocked := new.isUnlocked, atLimit := false } ∧
    s.loseReference.timing = { s.timing with jam := none } ∧ s.loseReference.store = s.store.goneIdle ∧
    ((s.reports.queues[(0 : Fin 4)]).length ≤ 21 → s.loseReference.reports.queues[(0 : Fin 4)] =
      s.reports.queues[(0 : Fin 4)] ++ recordsOf s.timing.count
        (lockPost .refLost 0 0 :: changePosts s.engine.lock new true s.engine.atLimit)) := by
  refine ⟨?_, ?_, ?_, fun room => ?_⟩
  · rw [State.loseReference_engine, change, State.changeLock_engine]
    simp
  · rw [State.loseReference_timing, change, changeLock_timing_of_cancels s cancels]
  · rw [State.loseReference_store, change, State.changeLock_store, Store.handed_goneIdle _ idle]
  · have posts : s.takeLoss.2 = changePosts s.engine.lock new true s.engine.atLimit := by
      rw [change, State.changeLock_changePosts]
    rw [← posts]
    refine State.loseReference_queue ?_
    have length := changePosts_length s.engine.lock new true s.engine.atLimit
    rw [posts]
    omega

theorem State.loseReference_lossTaken (s : State) : lossTaken s s.loseReference := by
  have stays (lock : s.engine.lock = .free ∨ s.engine.lock = .holdover ∨ s.engine.lock = .internal) :
      s.takeLoss.1.timing = s.timing ∧ s.takeLoss.1.store = s.store ∧ s.takeLoss.2 = [] := by
    rcases or_assoc.mpr lock with unlocked | internal
    · rw [State.takeLoss_unlocked unlocked]
      exact ⟨rfl, rfl, rfl⟩
    · rw [State.takeLoss_internal internal]
      exact ⟨rfl, rfl, rfl⟩
  refine ⟨fun tracking => ?_, fun unlocked => ?_, fun internal => ?_, fun other => ?_⟩
  · have change := State.takeLoss_tracking tracking
    by_cases hold : 1 ≤ s.engine.hmax
    · dsimp only at change
      rw [if_pos hold] at change
      obtain ⟨engine, timing, store, queue⟩ := State.loseReference_change change rfl rfl
      rw [if_pos hold]
      exact ⟨fun _ => engine, fun none => absurd hold (by omega), timing, store, queue⟩
    · dsimp only at change
      rw [if_neg hold] at change
      obtain ⟨engine, timing, store, queue⟩ := State.loseReference_change change rfl rfl
      rw [if_neg hold]
      exact ⟨fun some => absurd some hold, fun _ => engine, timing, store, queue⟩
  · rw [State.loseReference_engine, State.takeLoss_unlocked unlocked]
    rfl
  · rw [State.loseReference_engine, State.takeLoss_internal internal]
  · obtain ⟨timing, store, posts⟩ := stays other
    refine ⟨State.loseReference_timing.trans timing, State.loseReference_store.trans store, fun room => ?_⟩
    have queue := State.loseReference_queue (s := s) (by rw [posts]; exact Nat.succ_le_succ room)
    rw [posts] at queue
    exact queue

/-! ## The closing of the wide window (R9) -/

theorem State.closeIsHeld_of_pulse {s : State} {x : Stamp} {p : Prediction} (pulse : s.pulse = .inProgress x)
    (prediction : s.classifier.prediction = some p) :
    s.closeIsHeld = decide ((stampDiff x p.stamp).natAbs ≤ 16 * p.ww) := by
  rw [State.closeIsHeld, pulse]
  exact Classifier.inWide_eq prediction

theorem State.closeIsHeld_free {s : State} {p : Prediction} (prediction : s.classifier.prediction = some p)
    (outside : ∀ x, s.pulse = .inProgress x → 16 * p.ww < (stampDiff x p.stamp).natAbs) : s.closeIsHeld = false := by
  cases pulse : s.pulse with
  | inProgress x =>
    rw [State.closeIsHeld_of_pulse pulse prediction]
    exact decide_eq_false (Nat.not_le.mpr (outside x pulse))
  | idle | handled => rw [State.closeIsHeld, pulse]

theorem exec_wideWindowClose_track {s : State} (track : s.classifier.tracking = .track) : exec .wideWindowClose s =
    if s.closeIsHeld then .next (s.setClassifier { s.classifier with closeHeld := true }) else .next s.makeSynthetic.settle := by
  change execWideWindowClose s = _
  rw [execWideWindowClose, track]

/-- The synthetic line start is written and not measured (R9, R26). -/
theorem State.emitLine_synthetic (s : State) {l : RefLine} (synthetic : l.synthetic = true) : s.emitLine l = s.storeWrite l :=
  State.measure_none _ l fun ⟨real, _⟩ => by
    rw [synthetic] at real
    nomatch real

theorem State.syntheticLine_written (s : State) (p : Prediction) :
    s.syntheticLine p =
      (let numbered := s.numberLine p.stamp
       let t := (numbered.1.setClassifier { numbered.1.classifier with
         badCount := raised 255 numbered.1.classifier.badCount
         synthCount := raised 63 s.classifier.synthCount }).storeWrite ⟨p.stamp, numbered.2, true, none⟩
       t.setClassifier { t.classifier with
         anchor := some ⟨p.stamp, false, false⟩
         prediction := some ⟨p.stamp + BitVec.ofNat 24 s.classifier.lavg, s.classifier.wn, s.classifier.ww⟩
         closeHeld := false }) := by
  have steady := s.numberLine_steady p.stamp
  simp only [Classifier.steady, Prod.mk.injEq] at steady
  obtain ⟨average, narrow, wide, -, count, -⟩ := steady
  unfold State.syntheticLine
  generalize s.numberLine p.stamp = numbered at average narrow wide count
  dsimp only
  rw [State.emitLine_synthetic _ rfl, Classifier.countSynthetic, count]
  have written := State.storeWrite_classifier (numbered.1.setClassifier { numbered.1.classifier.countBad with
    synthCount := countTo 63 s.classifier.synthCount }) ⟨p.stamp, numbered.2, true, none⟩
  rw [written, Classifier.anchorAt, Classifier.predict, stampAdd_natCast]
  change _ = State.setClassifier _ { (State.storeWrite _ _).classifier with
    anchor := some ⟨p.stamp, false, false⟩
    prediction := some ⟨p.stamp + BitVec.ofNat 24 s.classifier.lavg, s.classifier.wn, s.classifier.ww⟩
    closeHeld := false }
  rw [State.storeWrite_classifier, ← average, ← narrow, ← wide]
  rfl

theorem State.syntheticLine_counts (s : State) (p : Prediction) :
    (s.syntheticLine p).classifier.synthCount = raised 63 s.classifier.synthCount ∧
      (s.syntheticLine p).classifier.nloss = s.classifier.nloss := by
  have steady := s.numberLine_steady p.stamp
  simp only [Classifier.steady, Prod.mk.injEq] at steady
  obtain ⟨-, -, -, loss, count, -⟩ := steady
  unfold State.syntheticLine
  dsimp only
  rw [State.setClassifier_classifier, State.emitLine_classifier]
  exact ⟨congrArg (raised 63) count, loss⟩

theorem State.makeSynthetic_counted {s : State} {p : Prediction} (prediction : s.classifier.prediction = some p) :
    s.makeSynthetic = if s.classifier.nloss ≤ raised 63 s.classifier.synthCount then (s.syntheticLine p).loseReference
      else s.syntheticLine p := by
  obtain ⟨count, loss⟩ := s.syntheticLine_counts p
  rw [State.makeSynthetic_some prediction, count, loss]

theorem State.releaseHeld_held {s : State} (held : s.classifier.closeHeld = true) : s.releaseHeld = s.makeSynthetic := if_pos held

/-- Settles O38: the closing held or taken, the synthetic line start with its count, the loss, and the pulses that release a
closing held back. -/
theorem windowCloseMakesSyntheticLineStart : Obligations.WindowCloseMakesSyntheticLineStart := by
  refine ⟨fun s p track prediction => ⟨fun x pulse wide => ?_, fun outside => ?_⟩, fun s p prediction => ?_, fun s => ?_,
    fun s x w p track pulse held prediction => ?_⟩
  · rw [exec_wideWindowClose_track track, State.closeIsHeld_of_pulse pulse prediction, if_pos (decide_eq_true wide)]
  · have free := State.closeIsHeld_free prediction outside
    obtain ⟨keeps, pulse, -⟩ := lockHalfOnly_trans (lockHalfOnly_makeSynthetic s) (lockHalfOnly_settle _)
    refine ⟨?_, keeps, pulse⟩
    rw [exec_wideWindowClose_track track, if_neg (Bool.eq_false_iff.mp free)]
  · intro n numbered t made
    have written : s.syntheticLine p = made := s.syntheticLine_written p
    have counted := State.makeSynthetic_counted prediction
    rw [written] at counted
    exact ⟨fun few => counted.trans (if_neg (Nat.not_le.mpr few)), fun many => counted.trans (if_pos many)⟩
  · obtain ⟨keeps, pulse, -⟩ := lockHalfOnly_loseReference s
    exact ⟨s.loseReference_lossTaken, keeps, pulse, State.loseReference_classifier⟩
  · intro stray
    refine ⟨fun noise => ?_, fun low high outside notNarrow notWide => ?_, ?_⟩
    · rw [exec_syncPulse_inProgress pulse, pulseClass_noise noise, State.handlePulse_track (s := s.setPulse .idle) track]
      exact congrArg (fun t => Host.Outcome.next (State.settle t)) (State.releaseHeld_held (s := s.setPulse .idle) held)
    · rw [exec_syncPulse_inProgress pulse, State.handlePulse_track (s := s.setPulse .idle) track,
        State.pulseInTrack_windows (s := s.setPulse .idle) low high prediction outside, if_neg (Nat.not_le.mpr notNarrow),
        if_neg (Nat.not_le.mpr notWide)]
      exact congrArg (fun t => Host.Outcome.next (State.settle t))
        (State.releaseHeld_held (s := (s.setPulse .idle).setClassifier stray) held)
    · rw [exec_overlongPulse_inProgress pulse, State.handlePulse_track (s := s.setPulse .handled) track]
      exact congrArg (fun t => Host.Outcome.next (State.settle t))
        (State.releaseHeld_held (s := (s.setPulse .handled).setClassifier stray) held)

end Sys2Proof.Machine

namespace Sys2Proof.Machine

/-! ## A mid-line pulse (R8, R12) -/

section
variable {s : State} {x : Stamp}

theorem State.midLinePulse_short (s : State) (x : Stamp) : s.midLinePulse .short x = s := rfl

theorem State.midLinePulse_broad (s : State) (x : Stamp) : s.midLinePulse .broad x =
    match s.classifier.numbering with
    | .unnumbered => s.startRefField ⟨.two, false, x⟩ (.awaiting .two)
    | .awaiting _ => s
    | .numbered k =>
      if s.classifier.syncRun then s
      else if 200 ≤ k.line then s.startRefField ⟨.two, false, x⟩ (.awaiting .two)
      else s.setClassifier { s.classifier with badCount := raised 255 s.classifier.badCount } := by
  rw [State.midLinePulse, if_pos rfl, Classifier.offer]
  cases s.classifier.numbering with
  | unnumbered => rfl
  | awaiting => rfl
  | numbered k =>
    dsimp only
    split_ifs <;> rfl

theorem State.midLinePulse_closeHeld (cls : PulseClass) : (s.midLinePulse cls x).classifier.closeHeld = s.classifier.closeHeld := by
  unfold State.midLinePulse
  split
  · split
    · exact congrArg (fun c => c.2.2.2.2.2.2) (s.startRefField_steady ..)
    · rfl
    · rfl
  · rfl

/-- A mid-line pulse is handled, and then a closing held back for it. -/
theorem State.pulseInTrack_midLine {cls : PulseClass} (mid : s.classifier.inMidLine x = true) (h : cls = .short ∨ cls = .broad) :
    s.pulseInTrack cls x =
      if s.classifier.closeHeld then (s.midLinePulse cls x).makeSynthetic else s.midLinePulse cls x := by
  have notNoise : cls ≠ .noise := by rcases h with rfl | rfl <;> exact nofun
  have notOverlong : cls ≠ .overlong := by rcases h with rfl | rfl <;> exact nofun
  rw [State.pulseInTrack_grid notNoise notOverlong, if_pos ⟨h, mid⟩, State.releaseHeld, State.midLinePulse_closeHeld]

end

/-! ## The number of a line start (R12 to R14) -/

section
variable {s : State} {x : Stamp} {k : Key} {p : Parity}

theorem State.numberLine_unnumbered (h : s.classifier.numbering = .unnumbered) : s.numberLine x = (s, none) := by
  rw [State.numberLine, h]

theorem State.numberLine_awaiting (h : s.classifier.numbering = .awaiting p) :
    s.numberLine x = (s.setClassifier { s.classifier with numbering := .numbered ⟨p, 1⟩ }, some ⟨p, 1⟩) := by
  rw [State.numberLine, h]

theorem State.numberLine_numbered (h : s.classifier.numbering = .numbered k) : s.numberLine x =
    if k.line + 1 = s.classifier.flywheelLimit s.timing.standard k.parity then
      (s.startRefField ⟨k.parity.other, true, x⟩ (.numbered ⟨k.parity.other, 1⟩), some ⟨k.parity.other, 1⟩)
    else (s.setClassifier { s.classifier with numbering := .numbered ⟨k.parity, k.line + 1⟩ }, some ⟨k.parity, k.line + 1⟩) := by
  rw [State.numberLine, h]

theorem State.numberBroad_starts (h : s.classifier.offer = .starts) :
    s.numberBroad x = (s.startRefField ⟨.one, false, x⟩ (.numbered ⟨.one, 1⟩), some ⟨.one, 1⟩) := by
  rw [State.numberBroad, h]

theorem State.numberBroad_partOfSync (h : s.classifier.offer = .partOfSync) : s.numberBroad x = s.numberLine x := by
  rw [State.numberBroad, h]

theorem State.numberBroad_refused (h : s.classifier.offer = .refused) :
    s.numberBroad x = (s.setClassifier s.classifier.countBad).numberLine x := by
  rw [State.numberBroad, h]

theorem Classifier.offer_numbered {c : Classifier} (h : c.numbering = .numbered k) :
    c.offer = if c.syncRun then .partOfSync else if 200 ≤ k.line then .starts else .refused := by
  rw [Classifier.offer, h]

end

/-! ## The verdict in the lock engine (R50, R55) -/

/-- The enter of ACQUIRE by a verdict, or no change of lock state; either posts its change and touches no other unit. -/
theorem State.takeVerdict_lock (s : State) (v : Verdict) :
    (s.takeVerdict v).1.timing = s.timing ∧ (s.takeVerdict v).1.reports = s.reports ∧
    (s.takeVerdict v).2 = changePosts s.engine.lock (s.takeVerdict v).1.engine.lock false false ∧
    ((s.takeVerdict v).1.engine.lock = s.engine.lock →
      (s.takeVerdict v).1.store = s.store ∧ (s.takeVerdict v).1.mixer = s.mixer) ∧
    ((s.takeVerdict v).1.engine.lock ≠ s.engine.lock →
      (s.takeVerdict v).1.engine.lock = .acquire ∧ (s.takeVerdict v).1.mixer = { s.mixer with recorded := .acquire } ∧
      (s.takeVerdict v).1.store = if s.store.active = true then s.store else s.store.goneActive) := by
  have same (e : Engine) (lock : e.lock = s.engine.lock) : [] = changePosts s.engine.lock e.lock false false := by
    rw [lock]
    simp [changePosts]
  unfold State.takeVerdict
  split
  · next unlocked =>
    split
    · dsimp only
      split
      · have entered := congrArg Engine.lock (State.changeLock_engine s .acquire false
          (if s.engine.lock = .free then { s.engine with qual := 0, lockRun := 0, vmatch := false, holdover := 0, i := 0 }
            else { s.engine with qual := 0, lockRun := 0, vmatch := false, holdover := 0 }))
        unfold State.enterAcquire
        dsimp only at entered ⊢
        rw [entered]
        refine ⟨State.changeLock_timing .., State.changeLock_reports .., State.changeLock_changePosts .., fun h => ?_,
          fun _ => ⟨rfl, State.changeLock_mixer .., State.changeLock_store ..⟩⟩
        rw [← h] at unlocked
        exact unlocked.elim nofun nofun
      · exact ⟨rfl, rfl, same _ rfl, fun _ => ⟨rfl, rfl⟩, fun h => absurd rfl h⟩
    · exact ⟨rfl, rfl, same _ rfl, fun _ => ⟨rfl, rfl⟩, fun h => absurd rfl h⟩
  · exact ⟨rfl, rfl, same _ rfl, fun _ => ⟨rfl, rfl⟩, fun h => absurd rfl h⟩

/-- The engine after a verdict, with the decay of S that the field start brings. -/
theorem State.takeVerdict_taken (s : State) (v : Verdict) :
    verdictTaken s.engine { (s.takeVerdict v).1.engine with s := decayOffset (s.takeVerdict v).1.engine.s } v.good := by
  refine ⟨fun notFree notHoldover => ?_, fun unlocked => ⟨fun bad => ?_, fun good few => ?_, fun good enough => ?_⟩⟩
  · rw [State.takeVerdict, if_neg (not_or.mpr ⟨notFree, notHoldover⟩)]
  · rw [State.takeVerdict, if_pos unlocked, if_neg (Bool.eq_false_iff.mp bad)]
    rfl
  · rw [State.takeVerdict, if_pos unlocked, if_pos good]
    have few' : ¬s.engine.q ≤ countTo 255 s.engine.qual := Nat.not_le.mpr few
    dsimp only
    rw [if_neg few']
    rfl
  · rw [State.takeVerdict, if_pos unlocked, if_pos good]
    have enough' : s.engine.q ≤ countTo 255 s.engine.qual := enough
    dsimp only
    rw [if_pos enough', State.enterAcquire, State.changeLock_engine]
    split <;> simp [LockState.isUnlocked, *]

end Sys2Proof.Machine

namespace Sys2Proof.Machine

/-! ## The wrong-standard test (R17) -/

theorem wrongStandardLines_eq (std : Standard) (n : Nat) : wrongStandardLines std n = wrongLines std n := by
  cases std with
  | s625 => exact (Bool.decide_or ..).symm
  | s525 => exact (Bool.decide_or ..).symm

/-- A line count of the other standard is no field's length. -/
theorem wrongLines_ne_fieldLength {std : Standard} {n : Nat} (wrong : wrongLines std n = true) (p : Parity) :
    n ≠ fieldLength std p := by
  cases std <;> cases p <;> simp only [wrongLines, decide_eq_true_eq, fieldLength] at wrong ⊢ <;> omega

section
variable {c : Classifier} {std : Standard} {k : Key}

theorem Classifier.testStandard_wrong (wrong : wrongLines std k.line = true) : c.testStandard std k =
    if raised 4 c.wrongRun = 4 ∧ c.mismatch = false then
      ({ c with wrongRun := raised 4 c.wrongRun, mismatch := true }, [lockPost .standardMismatch 0 k.line])
    else ({ c with wrongRun := raised 4 c.wrongRun }, []) :=
  if_pos ((wrongStandardLines_eq std k.line).trans wrong)

theorem Classifier.testStandard_right (right : wrongLines std k.line = false) : c.testStandard std k =
    if k.line = fieldLength std k.parity then
      if c.mismatch then ({ c with wrongRun := 0, mismatch := false }, [lockPost .standardOk 0 k.line])
      else ({ c with wrongRun := 0 }, [])
    else ({ c with wrongRun := 0 }, []) :=
  if_neg (Bool.eq_false_iff.mp ((wrongStandardLines_eq std k.line).trans right))

theorem Classifier.testStandard_posts : (c.testStandard std k).2 = standardPosts std k.line k.parity c := by
  unfold standardPosts
  cases wrong : wrongLines std k.line with
  | true =>
    have other := wrongLines_ne_fieldLength wrong k.parity
    rw [Classifier.testStandard_wrong wrong]
    split_ifs <;> simp_all <;> rfl
  | false =>
    rw [Classifier.testStandard_right wrong]
    split_ifs <;> simp_all <;> rfl

theorem Classifier.testStandard_tested : standardTested std k.line k.parity c (c.testStandard std k).1 := by
  refine ⟨fun wrong => ?_, fun right => ?_⟩
  · rw [Classifier.testStandard_wrong wrong]
    split_ifs <;> simp_all
  · rw [Classifier.testStandard_right right]
    split_ifs <;> simp_all

theorem standardPosts_queue (std : Standard) (n : Nat) (p : Parity) (c : Classifier) :
    ∀ x ∈ standardPosts std n p c, x.queue = 0 := by
  unfold standardPosts
  split_ifs
  · intro x h
    rw [List.mem_singleton.mp h]
  · intro x h
    rw [List.mem_singleton.mp h]
  · exact nofun

theorem standardPosts_length (std : Standard) (n : Nat) (p : Parity) (c : Classifier) : (standardPosts std n p c).length ≤ 1 := by
  unfold standardPosts
  split_ifs <;> simp

end

/-! ## A reference field start (R12, R16, R18) -/

section
variable (s : State) (f : RefField) (n : Numbering)

/-- A field start is the verdict and, beside the classifier's new field, the event to the lock engine. -/
theorem State.startRefField_eq : s.startRefField f n =
    (s.giveVerdict.setClassifier (s.classifier.startField s.timing.standard f.synthetic n)).takeFieldStart f := by
  unfold State.startRefField Classifier.startField
  dsimp only
  rw [State.giveVerdict_classifier]

theorem State.startRefField_engine : (s.startRefField f n).engine =
    { s.giveVerdict.engine with s := decayOffset s.giveVerdict.engine.s } := by
  rw [State.startRefField_eq, State.takeFieldStart_eq]
  rfl

theorem State.startRefField_jam : (s.startRefField f n).timing.jam =
    if s.giveVerdict.engine.lock = .acquire ∧ f.synthetic = false then
      some ⟨f.parity, s.giveVerdict.store.d, s.giveVerdict.store.d⟩
    else s.giveVerdict.timing.jam := by
  rw [State.startRefField_eq, State.takeFieldStart_eq]
  rfl

theorem State.startRefField_others :
    (s.startRefField f n).store = s.giveVerdict.store ∧ (s.startRefField f n).mixer = s.giveVerdict.mixer ∧
      (s.startRefField f n).reports = s.giveVerdict.reports := by
  rw [State.startRefField_eq, State.takeFieldStart_eq]
  exact ⟨rfl, rfl, rfl⟩

end

/-- The verdict as the lock engine takes it, beside the classifier and the reports. -/
theorem State.giveVerdict_followers (s : State) :
    s.giveVerdict.timing = s.timing ∧
    (s.giveVerdict.engine.lock = s.engine.lock → s.giveVerdict.store = s.store ∧ s.giveVerdict.mixer = s.mixer) ∧
    (s.giveVerdict.engine.lock ≠ s.engine.lock →
      s.giveVerdict.engine.lock = .acquire ∧ s.giveVerdict.mixer = { s.mixer with recorded := .acquire } ∧
      s.giveVerdict.store = if s.store.active = true then s.store else s.store.goneActive) := by
  by_cases numbered : ∃ k, s.classifier.numbering = .numbered k
  · obtain ⟨k, h⟩ := numbered
    have given := State.giveVerdict_numbered h
    dsimp only at given
    obtain ⟨timing, -, -, same, entered⟩ :=
      s.takeVerdict_lock ⟨k.parity, k.line, s.classifier.isGood s.timing.standard k⟩
    rw [given, State.postWork_timing, State.postWork_engine, State.postWork_store, State.postWork_mixer]
    exact ⟨timing, same, entered⟩
  · rw [State.giveVerdict_unnumbered fun k h => numbered ⟨k, h⟩]
    exact ⟨rfl, fun _ => ⟨rfl, rfl⟩, fun h => absurd rfl h⟩

/-- Two units' reports in one queue, in one order or the other (log 13). -/
theorem State.postWork_pair_queue (s : State) (ahead : Option Work) {a b : Work × List Post} {q : Fin 4}
    (first : ∀ p ∈ a.2, p.queue = q) (second : ∀ p ∈ b.2, p.queue = q)
    (room : (s.reports.queues[q]).length + a.2.length + b.2.length ≤ 24) :
    (s.postWork ahead [a, b]).reports.queues[q] =
        s.reports.queues[q] ++ (recordsOf s.timing.count a.2 ++ recordsOf s.timing.count b.2) ∨
      (s.postWork ahead [a, b]).reports.queues[q] =
        s.reports.queues[q] ++ (recordsOf s.timing.count b.2 ++ recordsOf s.timing.count a.2) := by
  have posted := fun room => s.postWork_recordsOf ahead (ws := [a, b]) (q := q) room
  obtain order | order := s.workPosts_pair ahead a b
  · rw [order, postsTo_append, postsTo_all first, postsTo_all second, recordsOf, List.map_append] at posted
    exact .inl (posted (by rw [List.length_append]; omega))
  · rw [order, postsTo_append, postsTo_all first, postsTo_all second, recordsOf, List.map_append] at posted
    exact .inr (posted (by rw [List.length_append]; omega))

/-- The reports of a verdict: those of the classifier and of the lock engine, in either order. -/
theorem State.giveVerdict_queue {s : State} {k : Key} (numbered : s.classifier.numbering = .numbered k)
    (room : (s.reports.queues[(0 : Fin 4)]).length ≤ 22) :
    let classifier := recordsOf s.timing.count (standardPosts s.timing.standard k.line k.parity s.classifier)
    let engine := recordsOf s.timing.count (changePosts s.engine.lock s.giveVerdict.engine.lock false false)
    s.giveVerdict.reports.queues[(0 : Fin 4)] = s.reports.queues[(0 : Fin 4)] ++ (classifier ++ engine) ∨
      s.giveVerdict.reports.queues[(0 : Fin 4)] = s.reports.queues[(0 : Fin 4)] ++ (engine ++ classifier) := by
  have given := State.giveVerdict_numbered numbered
  dsimp only at given
  obtain ⟨timing, reports, posts, -⟩ := s.takeVerdict_lock ⟨k.parity, k.line, s.classifier.isGood s.timing.standard k⟩
  rw [Classifier.testStandard_posts, posts] at given
  rw [given, State.postWork_engine, State.setClassifier_engine]
  have posted := State.postWork_pair_queue
    ((s.takeVerdict ⟨k.parity, k.line, s.classifier.isGood s.timing.standard k⟩).1.setClassifier
      (s.classifier.judge s.timing.standard)) none
    (a := (.classifier, standardPosts s.timing.standard k.line k.parity s.classifier))
    (b := (.engine, changePosts s.engine.lock
      (s.takeVerdict ⟨k.parity, k.line, s.classifier.isGood s.timing.standard k⟩).1.engine.lock false false)) (q := 0)
    (fun p hp => standardPosts_queue _ _ _ _ p hp) changePosts_queue
  rw [State.setClassifier_reports, reports, State.setClassifier_timing, timing] at posted
  refine posted ?_
  have classifier := standardPosts_length s.timing.standard k.line k.parity s.classifier
  have engine := changePosts_unset_length s.engine.lock
    (s.takeVerdict ⟨k.parity, k.line, s.classifier.isGood s.timing.standard k⟩).1.engine.lock false
  dsimp only
  omega

theorem Classifier.isGood_eq (c : Classifier) (std : Standard) (k : Key) : c.isGood std k =
    decide (k.line = fieldLength std k.parity ∧ c.badCount ≤ c.b ∧ c.previous = some k.parity.other ∧ c.startSynthetic = false) := by
  rw [Bool.eq_iff_iff]
  simp [Classifier.isGood, and_assoc]

theorem Classifier.judge_numbered {c : Classifier} {k : Key} (std : Standard) (h : c.numbering = .numbered k) : c.judge std =
    { (c.testStandard std k).1 with
      verdict := some ⟨k.parity, k.line, c.isGood std k⟩, flywheel := c.isGood std k, previous := some k.parity } := by
  rw [Classifier.judge, h]

theorem Classifier.judge_unnumbered {c : Classifier} (std : Standard) (h : ∀ k, c.numbering ≠ .numbered k) : c.judge std = c := by
  unfold Classifier.judge
  split
  · next k numbered => exact absurd numbered (h k)
  · rfl

/-- What a field start leaves of the classifier beside the verdict's fields. -/
theorem Classifier.startField_eq (c : Classifier) (std : Standard) (synthetic : Bool) (n : Numbering) :
    c.startField std synthetic n = { c with
      numbering := n, syncRun := true, badCount := 0, startSynthetic := synthetic
      verdict := (c.judge std).verdict, flywheel := (c.judge std).flywheel, previous := (c.judge std).previous
      wrongRun := (c.judge std).wrongRun, mismatch := (c.judge std).mismatch } := by
  unfold Classifier.startField
  rw [Classifier.judge_eq]

/-- Settles O39: the mid-line pulse, the number of a line start by the state of the numbering, and the field start with its
verdict. -/
theorem midLineBroadPulseJudgesField : Obligations.MidLineBroadPulseJudgesField := by
  refine ⟨fun s x w track pulse mid widths => ?_, fun s x => ⟨fun unnumbered => ?_, fun p awaiting => ?_, fun k numbered => ?_⟩,
    fun s f n => ?_⟩
  · intro b judged
    have cls : pulseClass w = .short ∨ pulseClass w = .broad :=
      widths.imp (fun h => pulseClass_short h.1 h.2) fun h => pulseClass_broad h.1 h.2
    have handled : b.midLinePulse (pulseClass w) x = judged := by
      rcases widths with ⟨low, high⟩ | ⟨low, high⟩
      · rw [pulseClass_short low high]
        exact (if_pos high).symm
      · rw [pulseClass_broad low high]
        refine (b.midLinePulse_broad x).trans (Eq.trans ?_ (if_neg (by omega)).symm)
        rfl
    rw [exec_syncPulse_inProgress pulse, State.handlePulse_track (s := b) track,
      State.pulseInTrack_midLine (s := b) mid cls, handled]
    rfl
  · refine ⟨State.numberLine_unnumbered unnumbered, State.numberBroad_starts ?_⟩
    rw [Classifier.offer, unnumbered]
  · refine ⟨State.numberLine_awaiting awaiting, State.numberBroad_partOfSync ?_⟩
    rw [Classifier.offer, awaiting]
  · intro limit
    have line := State.numberLine_numbered (x := x) numbered
    have offer := Classifier.offer_numbered numbered
    refine ⟨fun inside => line.trans (if_neg inside), fun last => line.trans (if_pos last), fun run => ?_, fun run late => ?_,
      fun run early => ?_⟩
    · exact State.numberBroad_partOfSync (offer.trans (if_pos run))
    · exact State.numberBroad_starts (offer.trans ((if_neg (Bool.eq_false_iff.mp run)).trans (if_pos late)))
    · exact State.numberBroad_refused
        (offer.trans ((if_neg (Bool.eq_false_iff.mp run)).trans (if_neg (Nat.not_le.mpr early))))
  · intro t
    obtain ⟨keeps, pulse, -⟩ := lockHalfOnly_startRefField s f n
    obtain ⟨timing, same, entered⟩ := s.giveVerdict_followers
    obtain ⟨store, mixer, reports⟩ := s.startRefField_others f n
    have classifier := s.startRefField_classifier f n
    have engine := s.startRefField_engine f n
    have lock : t.engine.lock = s.giveVerdict.engine.lock := by
      change (s.startRefField f n).engine.lock = _
      rw [engine]
    refine ⟨keeps, pulse, ?_, fun h => ?_, fun h => ?_, ?_, fun unnumbered => ?_, fun k numbered => ?_⟩
    · change (s.startRefField f n).classifier = { s.classifier with
        numbering := n, syncRun := true, badCount := 0, startSynthetic := f.synthetic
        verdict := (s.startRefField f n).classifier.verdict, flywheel := (s.startRefField f n).classifier.flywheel
        previous := (s.startRefField f n).classifier.previous, wrongRun := (s.startRefField f n).classifier.wrongRun
        mismatch := (s.startRefField f n).classifier.mismatch }
      rw [classifier]
      exact Classifier.startField_eq ..
    · rw [lock] at h
      obtain ⟨stood, stoodMixer⟩ := same h
      exact ⟨store.trans stood, mixer.trans stoodMixer⟩
    · rw [lock] at h ⊢
      obtain ⟨acquire, recorded, started⟩ := entered h
      exact ⟨acquire, mixer.trans recorded, store.trans started⟩
    · obtain ⟨⟨-, -, -, -, -, -, -, delay, -⟩, -⟩ := lockHalfOnly_giveVerdict s
      have jam := s.startRefField_jam f n
      rw [delay, timing] at jam
      rw [lock]
      exact jam
    · have stands := State.giveVerdict_unnumbered unnumbered
      rw [stands] at engine reports
      refine ⟨engine, ?_⟩
      rw [Classifier.startField, Classifier.judge_unnumbered _ unnumbered] at classifier
      change (s.startRefField f n).classifier.verdict = _ ∧ (s.startRefField f n).classifier.flywheel = _ ∧
        (s.startRefField f n).classifier.previous = _ ∧ (s.startRefField f n).classifier.wrongRun = _ ∧
        (s.startRefField f n).classifier.mismatch = _ ∧ _
      rw [classifier]
      exact ⟨rfl, rfl, rfl, rfl, rfl, reports⟩
    · intro good
      have result : s.classifier.isGood s.timing.standard k = good := s.classifier.isGood_eq s.timing.standard k
      rw [Classifier.startField, Classifier.judge_numbered _ numbered, result] at classifier
      have tested := Classifier.testStandard_tested (c := s.classifier) (std := s.timing.standard) (k := k)
      have taken := s.takeVerdict_taken ⟨k.parity, k.line, s.classifier.isGood s.timing.standard k⟩
      have given := State.giveVerdict_numbered numbered
      dsimp only at given
      have verdictEngine := congrArg State.engine given
      rw [State.postWork_engine, State.setClassifier_engine] at verdictEngine
      rw [← verdictEngine, result] at taken
      change (s.startRefField f n).classifier.verdict = _ ∧ (s.startRefField f n).classifier.flywheel = _ ∧
        (s.startRefField f n).classifier.previous = _ ∧
        standardTested s.timing.standard k.line k.parity s.classifier (s.startRefField f n).classifier ∧
        verdictTaken s.engine (s.startRefField f n).engine good ∧ _
      rw [classifier, engine]
      refine ⟨rfl, rfl, rfl, tested, taken, fun room => ?_⟩
      change (s.startRefField f n).reports.queues[(0 : Fin 4)] = _ ∨ (s.startRefField f n).reports.queues[(0 : Fin 4)] = _
      rw [reports]
      exact State.giveVerdict_queue numbered room

end Sys2Proof.Machine

namespace Sys2Proof.Machine

/-! ## What the kind of a tick says (R23, R42, R43, R46, R60, R64) -/

section
variable {s : State}

theorem State.tickKind_measurement (h : s.timing.acc.toNat + s.engine.k < 2 ^ 32) : s.tickKind = .measurement := by
  have still : s.carries = false := decide_eq_false (Nat.not_le.mpr h)
  unfold State.tickKind
  rw [still]
  rfl

/-- At a carry that nothing but its pixel follows, no check is due, the counter does not wrap, and no field starts. -/
theorem State.tickKind_pixel (h : s.tickKind = .pixel ∨ s.tickKind = .lineSyncRelease) :
    s.timing.wraps = false ∧ (s.tickKind = .lineSyncRelease → s.timing.lineSync = some 1) ∧
      (s.tickKind = .pixel → s.timing.lineSync ≠ some 1) := by
  unfold State.tickKind at h ⊢
  split_ifs at h ⊢ with _ _ _ wraps _ release <;> simp_all

theorem State.tickKind_lineStart (h : s.tickKind = .lineStart) : s.timing.jamDue = none ∧ s.timing.wraps = true := by
  unfold State.tickKind at h
  split_ifs at h with _ _ due wraps
  exact ⟨by simpa using due, wraps⟩

theorem State.tickKind_midLine (h : s.tickKind = .midLine) :
    s.timing.jamDue = none ∧ s.timing.wraps = false ∧ s.timing.naturalMidLine = true := by
  unfold State.tickKind at h
  split_ifs at h with _ _ due wraps natural
  exact ⟨by simpa using due, by simpa using wraps, natural⟩

end

/-! ## A carrying tick around its event -/

/-- The state on which the event of a carry comes: the accumulator and the pixel clock moved on. -/
def State.carried (s : State) : State := s.accumulate.setTiming s.accumulate.timing.advancePixel

theorem State.carried_timing (s : State) : s.carried.timing =
    { s.timing with
      acc := BitVec.ofNat 32 (s.timing.acc.toNat + s.engine.k), pixel := if s.timing.wraps then 0 else s.timing.pixel + 1
      lineSync := countDown s.timing.lineSync } := rfl

section
variable (s : State) (index : BitVec 4) (ref : Sample) (event : State → State)

/-- The mixer's work at the pixel, as it stands in the state after the tick. -/
theorem State.carryTick_mixer : (s.carryTick index ref event).mixer =
    ((event s.carried).mixer.clock (event s.carried).timing.latency
      ((event s.carried).pixelNow ((event s.carried).sampleAndRead ref).2) index (event s.carried).timing.lineSync.isSome
      (event s.carried).timing.fieldSync.isSome).1 := by
  change (((event s.carried).sampleAndRead ref).1.mixPixel _ index).mixer = _
  unfold State.mixPixel
  dsimp only
  split <;> rfl

theorem State.carryTick_mixer_frame : (s.carryTick index ref event).mixer = { (event s.carried).mixer with
    pipeline := (s.carryTick index ref event).mixer.pipeline, syncDelay := (s.carryTick index ref event).mixer.syncDelay
    output := (s.carryTick index ref event).mixer.output, clip := (s.carryTick index ref event).mixer.clip } := by
  rw [State.carryTick_mixer]
  exact Mixer.clock_eq ..

/-- The pixel and the end of the tick post nothing. -/
theorem State.carryTick_reports : (s.carryTick index ref event).reports = { (event s.carried).reports with
    latched := (s.carryTick index ref event).reports.latched, attn := (s.carryTick index ref event).reports.attn } := by
  obtain ⟨l, a, e⟩ : ∃ l a, (s.carryTick index ref event).reports = { (event s.carried).reports with latched := l, attn := a } := by
    change ∃ l a, ((((((event s.carried).sampleAndRead ref).1.mixPixel _ index).endTick).settle).reports = _)
    unfold State.mixPixel
    dsimp only
    split <;> exact ⟨_, _, rfl⟩
  rw [e]

end

/-- A carry drops one carry of the accumulator. -/
theorem carried_acc {acc : BitVec 32} {k : Nat} (carries : 2 ^ 32 ≤ acc.toNat + k) (small : k < 2 ^ 32) :
    (BitVec.ofNat 32 (acc.toNat + k)).toNat = acc.toNat + k - 2 ^ 32 := by
  have := acc.isLt
  rw [BitVec.toNat_ofNat]
  omega

/-- A carry at which no line and no field starts. -/
theorem State.carryTick_pixelOnly (s : State) (index : BitVec 4) (ref : Sample) (small : s.engine.k < 2 ^ 32)
    (kind : s.tickKind = .pixel ∨ s.tickKind = .lineSyncRelease) :
    let t := s.carryTick index ref id
    t.timing.acc.toNat = s.timing.acc.toNat + s.engine.k - 2 ^ 32 ∧
    t.timing = { s.timing with acc := t.timing.acc, pixel := s.timing.pixel + 1, lineSync := t.timing.lineSync } ∧
    t.store = s.store.sampleTick s.stamp ref ∧
    t.mixer = { s.mixer with
      pipeline := t.mixer.pipeline, syncDelay := t.mixer.syncDelay, output := t.mixer.output, clip := t.mixer.clip } ∧
    t.reports = { s.reports with latched := t.reports.latched, attn := t.reports.attn } ∧
    clockKeeps s t ∧ t.engine = s.engine ∧ t.banks = s.banks ∧ t.fades = s.fades ∧ t.cues = s.cues ∧ t.link = s.link := by
  intro t
  obtain ⟨stamp, pulse, classifier, engine, timing, store, banks, fades, cues, link, -, -⟩ := s.carryTick_keeps index ref id
  have carry : 2 ^ 32 ≤ s.timing.acc.toNat + s.engine.k := s.carries_of_tickKind fun h => by
    rw [h] at kind
    obtain h | h := kind <;> cases h
  have running : s.timing.restartPending = false := by
    obtain h | h := kind
    · exact State.running_of_tickKind h nofun nofun
    · exact State.running_of_tickKind h nofun nofun
  have moved : t.timing = _ := timing.trans s.carried_timing
  rw [(State.tickKind_pixel kind).1] at moved
  have mixer := s.carryTick_mixer_frame index ref id
  have reports := s.carryTick_reports index ref id
  have settings : (t.mixer.table, t.mixer.matte, t.mixer.policy) = (s.mixer.table, s.mixer.matte, s.mixer.policy) := by
    rw [show t.mixer = _ from mixer]
    rfl
  have enables : (t.reports.condEnables, t.reports.queueEnables) = (s.reports.condEnables, s.reports.queueEnables) := by
    rw [show t.reports = _ from reports]
    rfl
  refine ⟨?_, ?_, store, mixer, reports, ⟨stamp, ?_, ?_, enables, pulse, classifier, ?_, settings, ?_⟩, engine, banks, fades, cues,
    link⟩
  · rw [moved]
    exact carried_acc carry small
  · rw [moved]
    rfl
  · rw [moved]
  · rw [moved]
    exact running
  · rw [moved]
  · rw [show t.store = _ from store, Store.sampleTick_eq]
    rfl

theorem State.carryTick_lineSync (s : State) (index : BitVec 4) (ref : Sample) :
    (s.carryTick index ref id).timing.lineSync = countDown s.timing.lineSync := by
  obtain ⟨-, -, -, -, timing, -⟩ := s.carryTick_keeps index ref id
  rw [timing]
  rfl

/-- Settles O40: the tick without a carry, and the carry with nothing but its pixel. -/
theorem tickAddsIncrementAndCarryMakesPixel : Obligations.TickAddsIncrementAndCarryMakesPixel := by
  refine ⟨fun s ref still => ⟨?_, ?_⟩, fun s index ref small => ⟨fun kind => ?_, fun kind => ?_⟩⟩
  · exact State.onTick_of (State.tickKind_measurement still) _
  · rw [BitVec.toNat_ofNat]
    exact Nat.mod_eq_of_lt still
  · have last := (State.tickKind_pixel (Or.inr kind)).2.1 kind
    refine ⟨_, State.onTick_of kind _, s.carryTick_pixelOnly index ref small (Or.inr kind), last, ?_⟩
    rw [State.carryTick_lineSync, last]
    rfl
  · refine ⟨_, State.onTick_of kind _, s.carryTick_pixelOnly index ref small (Or.inl kind), fun none => ?_, fun n more some => ?_⟩
    · rw [State.carryTick_lineSync, none]
      rfl
    · rw [State.carryTick_lineSync, some]
      exact if_neg (by omega)

end Sys2Proof.Machine

/-! What the events of a carry leave: the events of the lock half, a field start, a line start (R42, R44, R54 to R60, R72, R85). -/

namespace Sys2Proof.Machine

/-! ## An event of the lock half at a carry -/

/-- What an event of the timing generator or of the line store leaves when the lock engine, the store and the mixer's record of
the lock state take it: its reports stand in the LOCK and the STORE queue. -/
structure LockEvent (s t : State) : Prop where
  half : lockHalfOnly s t
  classifier : t.classifier = s.classifier
  seq : t.store.seq = s.store.seq
  enables : (t.reports.condEnables, t.reports.queueEnables) = (s.reports.condEnables, s.reports.queueEnables)
  queue : t.reports.queues[(2 : Fin 4)] = s.reports.queues[(2 : Fin 4)]

theorem LockEvent.refl (s : State) : LockEvent s s := ⟨lockHalfOnly_refl s, rfl, rfl, rfl, rfl⟩

theorem LockEvent.trans {s t u : State} (a : LockEvent s t) (b : LockEvent t u) : LockEvent s u :=
  ⟨lockHalfOnly_trans a.half b.half, b.classifier.trans a.classifier, b.seq.trans a.seq, b.enables.trans a.enables,
    b.queue.trans a.queue⟩

theorem LockEvent.setEngine (s : State) (e : Engine) : LockEvent s (s.setEngine e) :=
  ⟨lockHalfOnly_setEngine s e, rfl, rfl, rfl, rfl⟩

theorem LockEvent.setDraw (s : State) (n : Nat) : LockEvent s (s.setDraw n) := ⟨lockHalfOnly_of_eq rfl, rfl, rfl, rfl, rfl⟩

theorem LockEvent.latch (s : State) (n : Nat) : LockEvent s (s.latch n) := ⟨lockHalfOnly_latch s n, rfl, rfl, rfl, rfl⟩

theorem LockEvent.setJam (s : State) (jam : Option Jam) : LockEvent s (s.setTiming { s.timing with jam := jam }) :=
  ⟨⟨⟨rfl, rfl, rfl, rfl, rfl, rfl, rfl, rfl, rfl⟩, rfl, rfl⟩, rfl, rfl, rfl, rfl⟩

theorem LockEvent.setStore {s : State} {st : Store} (settings : (st.d, st.h, st.seq) = (s.store.d, s.store.h, s.store.seq)) :
    LockEvent s (s.setStore st) := by
  simp only [Prod.mk.injEq] at settings
  obtain ⟨d, h, seq⟩ := settings
  exact ⟨lockHalfOnly_setStore d h, rfl, seq, rfl, rfl⟩

theorem LockEvent.post (s : State) {p : Post} (h : p.queue ≠ 2) : LockEvent s (s.post p) := by
  obtain ⟨conds, queues, -⟩ := s.post_enables p
  exact ⟨lockHalfOnly_post s p, rfl, rfl, Prod.ext conds queues, s.post_queue_ne h⟩

theorem LockEvent.postAll (s : State) {ps : List Post} (h : ∀ p ∈ ps, p.queue ≠ 2) : LockEvent s (s.postAll ps) := by
  obtain ⟨conds, queues, -⟩ := s.postAll_enables ps
  exact ⟨lockHalfOnly_postAll s ps, State.postAll_classifier .., by rw [State.postAll_store], Prod.ext conds queues,
    s.postAll_queue_ne ps h⟩

theorem LockEvent.changeLock (s : State) (new : LockState) (setsK : Bool) (e : Engine) :
    LockEvent s (s.changeLock new setsK e).1 := by
  obtain ⟨-, -, -, seq⟩ := s.store.handed_settings new
  have reports := State.changeLock_reports s new setsK e
  exact ⟨lockHalfOnly_changeLock .., State.changeLock_classifier .., by rw [State.changeLock_store, seq], by rw [reports],
    by rw [reports]⟩

/-- The reports of a change of lock state stand in the LOCK queue. -/
theorem State.changeLock_posts_queue (s : State) (new : LockState) (setsK : Bool) (e : Engine) :
    ∀ p ∈ (s.changeLock new setsK e).2, p.queue = 0 := by
  rw [State.changeLock_changePosts]
  exact changePosts_queue

theorem LockEvent.testLocked (s : State) : LockEvent s s.testLocked.1 := by
  obtain h | ⟨h, -⟩ := s.testLocked_cases <;> rw [h]
  · exact .refl s
  · exact .changeLock ..

theorem State.testLocked_posts_queue (s : State) : ∀ p ∈ s.testLocked.2, p.queue = 0 := by
  obtain h | ⟨h, -⟩ := s.testLocked_cases <;> rw [h]
  · exact nofun
  · exact s.changeLock_posts_queue _ _ _

theorem LockEvent.takeGeneratedField (s : State) : LockEvent s s.takeGeneratedField.1 := by
  unfold State.takeGeneratedField
  split
  · dsimp only
    split
    · exact .changeLock ..
    · exact .setEngine ..
  · exact .refl s

theorem State.takeGeneratedField_posts_queue (s : State) : ∀ p ∈ s.takeGeneratedField.2, p.queue = 0 := by
  unfold State.takeGeneratedField
  split
  · dsimp only
    split
    · exact s.changeLock_posts_queue _ _ _
    · exact nofun
  · exact nofun

theorem LockEvent.takeLineOne (s : State) (r : LineOne) : LockEvent s (s.takeLineOne r).1 := by
  unfold State.takeLineOne State.dropLock
  split
  · split
    · exact .setEngine ..
    · dsimp only
      split
      · exact .changeLock ..
      · exact .setEngine ..
  · exact .refl s

theorem State.takeLineOne_posts_queue (s : State) (r : LineOne) : ∀ p ∈ (s.takeLineOne r).2, p.queue = 0 := by
  unfold State.takeLineOne State.dropLock
  split
  · split
    · exact nofun
    · dsimp only
      split
      · exact s.changeLock_posts_queue _ _ _
      · exact nofun
  · exact nofun

/-! ## The store's read of a line (R72 to R74, R76, R78) -/

theorem Store.freeShown_settings (st : Store) : (st.freeShown.d, st.freeShown.h, st.freeShown.seq) = (st.d, st.h, st.seq) := by
  unfold Store.freeShown
  split <;> rfl

theorem Store.freeSlots_settings (st : Store) (is : List (Fin 8)) :
    ((st.freeSlots is).d, (st.freeSlots is).h, (st.freeSlots is).seq) = (st.d, st.h, st.seq) := by
  unfold Store.freeSlots
  induction is generalizing st with
  | nil => rfl
  | cons i is ih => exact ih (st.freeSlot i)

theorem Store.found_settings (st : Store) (i : Fin 8) :
    ((st.found i).d, (st.found i).h, (st.found i).seq) = (st.d, st.h, st.seq) := by
  rw [Store.found_eq, Store.freeSlots_settings]
  exact st.freeShown_settings

/-- A found line posts DROP at most, any other REPEAT at most, and the engine does not see the look-up. -/
theorem State.storeLookUp_shape (s : State) (k : Key) : ∃ st ps l,
    (s.storeLookUp k).1 = ((s.setStore st).postAll ps).setReports { ((s.setStore st).postAll ps).reports with latched := l } ∧
      (st.d, st.h, st.seq) = (s.store.d, s.store.h, s.store.seq) ∧ ∀ p ∈ ps, p.queue = 1 := by
  have one : ∀ (st : Store) (kind : ReportKind) (n k : Nat), (st.d, st.h, st.seq) = (s.store.d, s.store.h, s.store.seq) →
      ∃ st' ps l, ((s.setStore st).post (storePost kind n k)).latch condSlip =
        ((s.setStore st').postAll ps).setReports { ((s.setStore st').postAll ps).reports with latched := l } ∧
      (st'.d, st'.h, st'.seq) = (s.store.d, s.store.h, s.store.seq) ∧ ∀ p ∈ ps, p.queue = 1 := fun st kind n k settings =>
    ⟨st, [storePost kind n k], _, rfl, settings, fun p hp => by rw [List.mem_singleton.mp hp]; rfl⟩
  have none : ∀ st : Store, (st.d, st.h, st.seq) = (s.store.d, s.store.h, s.store.seq) →
      ∃ st' ps l, s.setStore st =
        ((s.setStore st').postAll ps).setReports { ((s.setStore st').postAll ps).reports with latched := l } ∧
      (st'.d, st'.h, st'.seq) = (s.store.d, s.store.h, s.store.seq) ∧ ∀ p ∈ ps, p.queue = 1 := fun st settings =>
    ⟨st, [], s.reports.latched, rfl, settings, nofun⟩
  unfold State.storeLookUp
  split
  · dsimp only
    split
    · exact one _ _ _ _ (s.store.found_settings _)
    · exact none _ (s.store.found_settings _)
  · split
    · exact none _ s.store.freeShown_settings
    · exact one s.store _ _ _ rfl

theorem LockEvent.storeLookUp (s : State) (k : Key) : LockEvent s (s.storeLookUp k).1 := by
  obtain ⟨st, ps, l, e, settings, queues⟩ := s.storeLookUp_shape k
  rw [e]
  have posted : LockEvent (s.setStore st) ((s.setStore st).postAll ps) := .postAll _ fun p hp => by
    rw [queues p hp]
    exact nofun
  exact (LockEvent.setStore settings).trans (posted.trans ⟨lockHalfOnly_setReports _ _, rfl, rfl, rfl, rfl⟩)

theorem State.storeLookUp_engine (s : State) (k : Key) : (s.storeLookUp k).1.engine = s.engine := by
  obtain ⟨st, ps, l, e, -⟩ := s.storeLookUp_shape k
  rw [e, State.setReports_engine, State.postAll_engine, State.setStore_engine]

theorem State.storeRead_idle {s : State} (idle : s.store.active = false) (k : Key) :
    s.storeRead k = s.setStore { s.store with hLine := s.store.h } := if_neg (by simpa using idle)

theorem LockEvent.storeRead (s : State) (k : Key) : LockEvent s (s.storeRead k) := by
  have trimmed : LockEvent s (s.setStore { s.store with hLine := s.store.h }) := .setStore rfl
  have read := trimmed.trans (.storeLookUp _ k)
  have result : ∀ (u : State) (r : LineOne), LockEvent u (u.setStore { u.store with lineOne := some r }) := fun u r => .setStore rfl
  have taken : ∀ (u : State) (r : LineOne), LockEvent u ((u.takeLineOne r).1.postAll (u.takeLineOne r).2) := fun u r =>
    (LockEvent.takeLineOne u r).trans (.postAll _ fun p hp => by
      rw [u.takeLineOne_posts_queue r p hp]
      exact nofun)
  unfold State.storeRead
  dsimp only
  split
  · split
    · exact read.trans ((result _ _).trans (taken _ _))
    · exact read
  · exact trimmed

/-! ## What every event of a carry leaves -/

/-- What the event of a carry leaves of the units it reaches: the settings, the oscillator, and what the pixel moves. -/
structure Clocked (s t : State) : Prop where
  stamp : t.stamp = s.stamp
  acc : t.timing.acc = s.timing.acc
  enables : (t.reports.condEnables, t.reports.queueEnables) = (s.reports.condEnables, s.reports.queueEnables)
  pulse : t.pulse = s.pulse
  classifier : t.classifier = s.classifier
  raster : (t.timing.standard, t.timing.lpix, t.timing.mode, t.timing.latency) =
    (s.timing.standard, s.timing.lpix, s.timing.mode, s.timing.latency)
  settings : (t.mixer.table, t.mixer.matte, t.mixer.policy) = (s.mixer.table, s.mixer.matte, s.mixer.policy)
  stage : (t.mixer.syncDelay, t.mixer.clip) = (s.mixer.syncDelay, s.mixer.clip)
  store : (t.store.d, t.store.h, t.store.seq) = (s.store.d, s.store.h, s.store.seq)

theorem Clocked.refl (s : State) : Clocked s s := ⟨rfl, rfl, rfl, rfl, rfl, rfl, rfl, rfl, rfl⟩

theorem Clocked.trans {s t u : State} (a : Clocked s t) (b : Clocked t u) : Clocked s u :=
  ⟨b.stamp.trans a.stamp, b.acc.trans a.acc, b.enables.trans a.enables, b.pulse.trans a.pulse, b.classifier.trans a.classifier,
    b.raster.trans a.raster, b.settings.trans a.settings, b.stage.trans a.stage, b.store.trans a.store⟩

theorem LockEvent.clocked {s t : State} (h : LockEvent s t) : Clocked s t := by
  obtain ⟨⟨⟨stamp, timing, mixer, -, -, -, -, d, vh⟩, pulse, -⟩, classifier, seq, enables, -⟩ := h
  exact ⟨stamp, by rw [timing], enables, pulse, classifier, by rw [timing], by rw [mixer], by rw [mixer], by rw [d, vh, seq]⟩

/-- A change of the timing generator that keeps its settings and the accumulator. -/
theorem Clocked.setTiming {s : State} {t : Timing}
    (h : (t.acc, t.standard, t.lpix, t.mode, t.latency) =
      (s.timing.acc, s.timing.standard, s.timing.lpix, s.timing.mode, s.timing.latency)) : Clocked s (s.setTiming t) := by
  simp only [Prod.mk.injEq] at h
  obtain ⟨acc, std, lpix, mode, latency⟩ := h
  exact ⟨rfl, acc, rfl, rfl, rfl, by rw [State.setTiming_timing, std, lpix, mode, latency], rfl, rfl, rfl⟩

/-- A change of the mixer that keeps its stored settings, the output stage and the last clip. -/
theorem Clocked.setMixer {s : State} {m : Mixer}
    (h : (m.table, m.matte, m.policy, m.syncDelay, m.clip) =
      (s.mixer.table, s.mixer.matte, s.mixer.policy, s.mixer.syncDelay, s.mixer.clip)) : Clocked s (s.setMixer m) := by
  simp only [Prod.mk.injEq] at h
  obtain ⟨table, matte, policy, delay, clip⟩ := h
  exact ⟨rfl, rfl, rfl, rfl, rfl, rfl, by rw [State.setMixer_mixer, table, matte, policy],
    by rw [State.setMixer_mixer, delay, clip], rfl⟩

theorem Clocked.postWork (s : State) (ahead : Option Work) (ws : List (Work × List Post)) : Clocked s (s.postWork ahead ws) := by
  obtain ⟨conds, queues, -⟩ := s.postWork_enables ahead ws
  exact ⟨by simp, by simp, Prod.ext conds queues, by simp, by simp, by simp, by simp, by simp, by simp⟩

theorem Clocked.takeBetween (s : State) (between : List Byte) : Clocked s (s.takeBetween between) := by
  obtain ⟨k, b, f, l, n, e⟩ := s.takeBetween_frame between
  rw [e]
  exact ⟨rfl, rfl, rfl, rfl, rfl, rfl, rfl, rfl, rfl⟩

theorem Clocked.walk (s : State) (f : Count) : Clocked s (s.walk f).1 := by
  have mixer := s.walk_mixer f
  exact ⟨by simp, by simp, by simp, by simp, by simp, by simp, by rw [mixer], by rw [mixer], by simp⟩

theorem Mixer.applyKeyer_eq (m : Mixer) :
    m.applyKeyer.1 = { m with keyer := m.keyerNext.getD m.keyer, keyerNext := none } := by
  unfold Mixer.applyKeyer
  cases h : m.keyerNext with
  | none =>
    dsimp only [Option.getD]
    rw [← h]
  | some v => rfl

theorem Clocked.performed (s : State) : Clocked s s.performed := by
  have banks : Clocked s (s.setBanks s.banks.perform.1) := ⟨rfl, rfl, rfl, rfl, rfl, rfl, rfl, rfl, rfl⟩
  refine banks.trans (.setMixer ?_)
  rw [Mixer.applyKeyer_eq]
  rfl

theorem Clocked.fieldWalked (s : State) (between : List Byte) : Clocked s (s.fieldWalked between) := by
  have walked := (Clocked.performed s).trans ((LockEvent.takeGeneratedField _).clocked.trans
    ((Clocked.takeBetween _ between).trans (.walk _ s.timing.count)))
  exact walked.trans ⟨rfl, rfl, rfl, rfl, rfl, rfl, rfl, rfl, rfl⟩

theorem LockEvent.checkPosted (s : State) {check : List Post} (h : ∀ p ∈ check, p.queue ≠ 2) :
    LockEvent s (s.checkPosted check) := by
  have posted : LockEvent s (if check.isEmpty || Config.checkResultFirst s.draw then s.postAll check else s) := by
    split
    · exact .postAll s h
    · exact .refl s
  unfold State.checkPosted
  dsimp only
  split
  · exact posted
  · exact posted.trans (.setDraw _ _)

theorem Clocked.startField (s : State) (p : Parity) (cause : Cause) :
    Clocked s (s.setTiming (s.timing.startField p cause)) := .setTiming rfl

theorem Clocked.beginLine (s : State) : Clocked s (s.setTiming s.timing.beginLine) := .setTiming rfl

theorem Clocked.startLine (s : State) : Clocked s (s.setTiming s.timing.startLine) := .setTiming rfl

theorem Clocked.loadContext (s : State) : Clocked s (s.setMixer s.mixer.loadContext) := .setMixer rfl

theorem Clocked.fieldStart (s : State) (p : Parity) (cause : Cause) {check : List Post} (h : ∀ p ∈ check, p.queue ≠ 2)
    (between : List Byte) : Clocked s (s.fieldStart p cause check between) := by
  rw [State.fieldStart_eq, State.takeField_eq]
  exact (LockEvent.checkPosted s h).clocked.trans ((Clocked.startField _ p cause).trans ((Clocked.fieldWalked _ between).trans
    (.postWork _ _ _)))

theorem Clocked.lineStart (s : State) (stamp : Stamp) : Clocked s (s.lineStart stamp) :=
   (Clocked.startLine s).trans ((LockEvent.storeRead _ _).clocked.trans ((Clocked.loadContext _).trans
    (LockEvent.setEngine ..).clocked))

/-! ## The events of the clock -/

theorem Clocked.naturalField (s : State) (between : List Byte) : Clocked s (s.naturalField between) := by
  unfold State.naturalField
  split
  · exact .fieldStart s _ _ (List.forall_mem_nil _) between
  · exact .refl s

theorem Clocked.wrapEvent (s : State) (stamp : Stamp) (between : List Byte) : Clocked s (State.wrapEvent stamp between s) := by
  exact (Clocked.beginLine s).trans ((Clocked.naturalField _ between).trans (.lineStart _ stamp))

theorem Clocked.restartEvent (s : State) (stamp : Stamp) (between : List Byte) :
    Clocked s (State.restartEvent stamp between s) := by
  have discarded : Clocked s (s.setMixer s.mixer.discard) := .setMixer rfl
  have begun : Clocked s ((s.setMixer s.mixer.discard).setTiming { s.timing.beginLine with pixel := 0, restartPending := false }) :=
    discarded.trans (.setTiming rfl)
  exact begun.trans ((Clocked.fieldStart _ .one .restart (List.forall_mem_nil _) between).trans (.lineStart _ stamp))

/-- A completed check up to its field start: the result in the engine, and the entry to LOCKED with its reports. -/
def State.checked (s : State) (p : Parity) (due : Key) : State × List Post :=
  let s0 := s.setTiming { s.timing with jam := none }
  if due = ⟨p, 1⟩ then (s0.setMatch true).testLocked
  else (s0.setMatch false, [lockPostInt .jam p.code (jamShift s.timing.standard p due)])

theorem State.completeCheck_eq (s : State) (p : Parity) (due : Key) (between : List Byte) : s.completeCheck p due between =
    (s.checked p due).1.fieldStart p (if due = ⟨p, 1⟩ then .natural else .jam) (s.checked p due).2 between := by
  unfold State.completeCheck State.checked
  dsimp only
  split <;> rfl

theorem LockEvent.checked (s : State) (p : Parity) (due : Key) : LockEvent s (s.checked p due).1 := by
  have cleared := LockEvent.setJam s none
  unfold State.checked
  dsimp only
  split
  · exact cleared.trans ((LockEvent.setEngine ..).trans (.testLocked _))
  · exact cleared.trans (.setEngine ..)

theorem State.checked_posts_queue (s : State) (p : Parity) (due : Key) : ∀ q ∈ (s.checked p due).2, q.queue = 0 := by
  unfold State.checked
  dsimp only
  split
  · exact State.testLocked_posts_queue _
  · intro q hq
    rw [List.mem_singleton.mp hq]
    rfl

theorem Clocked.completeCheck (s : State) (p : Parity) (due : Key) (between : List Byte) :
    Clocked s (s.completeCheck p due between) := by
  rw [State.completeCheck_eq]
  refine (LockEvent.checked s p due).clocked.trans (.fieldStart _ _ _ (fun q hq => ?_) between)
  rw [s.checked_posts_queue p due q hq]
  exact nofun

theorem Clocked.jamEvent (s : State) (p : Parity) (midLine : Bool) (due : Key) (stamp : Stamp) (between : List Byte) :
    Clocked s (State.jamEvent p midLine due stamp between s) := by
  unfold State.jamEvent
  split
  · exact .completeCheck s p due between
  · exact (Clocked.beginLine s).trans ((Clocked.completeCheck _ p due between).trans (.lineStart _ stamp))

/-- A carry whose event is clocked. -/
theorem Clocked.clockKeeps {s : State} (index : BitVec 4) (ref : Sample) {event : State → State}
    (h : Clocked s.carried (event s.carried)) (running : (event s.carried).timing.restartPending = false) :
    clockKeeps s (s.carryTick index ref event) := by
  obtain ⟨stamp, pulse, classifier, -, timing, store, -⟩ := s.carryTick_keeps index ref event
  have mixer := s.carryTick_mixer_frame index ref event
  have reports := s.carryTick_reports index ref event
  refine ⟨?_, ?_, ?_, ?_, ?_, ?_, ?_, ?_, ?_⟩
  · exact stamp.trans (congrArg (· + 16) h.stamp)
  · exact (congrArg Timing.acc timing).trans h.acc
  · exact (congrArg Timing.restartPending timing).trans running
  · rw [reports]
    exact h.enables
  · exact pulse.trans h.pulse
  · exact classifier.trans h.classifier
  · rw [timing]
    exact h.raster
  · rw [mixer]
    exact h.settings
  · rw [store, Store.sampleTick_eq]
    exact h.store

end Sys2Proof.Machine

/-! The title half at a field start: the request within it and the walk do the same whatever the lock half holds (R99, R107, R108,
R138). -/

namespace Sys2Proof.Machine

/-! ## One title half -/

/-- Two states with the same title half and link; of the mixer, the recorded lock state and the waiting pixels may differ. -/
structure SameTitle (u v : State) : Prop where
  banks : v.banks = u.banks
  fades : v.fades = u.fades
  cues : v.cues = u.cues
  link : v.link = u.link
  mixer : v.mixer = { u.mixer with recorded := v.mixer.recorded, pipeline := v.mixer.pipeline }
  latency : v.timing.latency = u.timing.latency

theorem SameTitle.refl (u : State) : SameTitle u u := ⟨rfl, rfl, rfl, rfl, rfl, rfl⟩

theorem SameTitle.trans {u v w : State} (a : SameTitle u v) (b : SameTitle v w) : SameTitle u w := by
  refine ⟨b.banks.trans a.banks, b.fades.trans a.fades, b.cues.trans a.cues, b.link.trans a.link, ?_, b.latency.trans a.latency⟩
  have mixer := b.mixer
  rw [a.mixer] at mixer
  exact mixer

theorem LockEvent.sameTitle {s t : State} (h : LockEvent s t) : SameTitle s t := by
  obtain ⟨⟨⟨-, timing, mixer, banks, fades, cues, link, -⟩, -⟩, -⟩ := h
  refine ⟨banks, fades, cues, link, ?_, by rw [timing]⟩
  rw [mixer]

section
variable {u v : State} (h : SameTitle u v)
include h

theorem SameTitle.setBanks (b : Banks) : SameTitle (u.setBanks b) (v.setBanks b) :=
  ⟨rfl, h.fades, h.cues, h.link, h.mixer, h.latency⟩

theorem SameTitle.setFades (f : Vector Fade 4) : SameTitle (u.setFades f) (v.setFades f) :=
  ⟨h.banks, rfl, h.cues, h.link, h.mixer, h.latency⟩

theorem SameTitle.setCues (p : CuePool) : SameTitle (u.setCues p) (v.setCues p) :=
  ⟨h.banks, h.fades, rfl, h.link, h.mixer, h.latency⟩

theorem SameTitle.setLink (l : Link) : SameTitle (u.setLink l) (v.setLink l) :=
  ⟨h.banks, h.fades, h.cues, rfl, h.mixer, h.latency⟩

theorem SameTitle.keyer : v.mixer.keyer = u.mixer.keyer ∧ v.mixer.keyerNext = u.mixer.keyerNext := by
  rw [h.mixer]
  exact ⟨rfl, rfl⟩

/-- A change of the keyer and its pending state alone. -/
theorem SameTitle.setKeyer (k : Bool) (next : Option Bool) :
    SameTitle (u.setMixer { u.mixer with keyer := k, keyerNext := next })
      (v.setMixer { v.mixer with keyer := k, keyerNext := next }) := by
  refine ⟨h.banks, h.fades, h.cues, h.link, ?_, h.latency⟩
  change ({ v.mixer with keyer := k, keyerNext := next } : Mixer) = _
  rw [h.mixer]
  rfl

theorem SameTitle.writeKeyer (x : Bool) :
    SameTitle (u.setMixer (u.mixer.writeKeyer x)) (v.setMixer (v.mixer.writeKeyer x)) := by
  have next : v.mixer.writeKeyer x = { v.mixer with keyer := v.mixer.keyer, keyerNext := (u.mixer.writeKeyer x).keyerNext } := by
    unfold Mixer.writeKeyer
    rw [h.keyer.1]
  have old : u.mixer.writeKeyer x = { u.mixer with keyer := v.mixer.keyer, keyerNext := (u.mixer.writeKeyer x).keyerNext } := by
    rw [h.keyer.1]
    rfl
  rw [next, old]
  exact h.setKeyer _ _

theorem SameTitle.mixerBytes (n : Nat) : v.mixer.bytes n = u.mixer.bytes n := by
  rw [h.mixer]
  rfl

end

/-! ## The request within a field start -/

/-- One answer on two states with one title half. -/
structure SameAnswer (a b : Answer) : Prop where
  state : SameTitle a.state b.state
  body : ∀ kind, b.body kind = a.body kind

theorem SameAnswer.refuse {u v : State} (h : SameTitle u v) (st : Status) : SameAnswer (u.refuse st) (v.refuse st) :=
  ⟨h, fun _ => rfl⟩

theorem SameAnswer.okay {u v : State} (h : SameTitle u v) {rs rs' : List Byte} (same : rs' = rs) :
    SameAnswer (u.okay rs) (v.okay rs') := ⟨h, fun _ => by rw [same]; rfl⟩

section
variable {u v : State} (h : SameTitle u v) (params : List Byte)
include h

theorem SameAnswer.keyer : SameAnswer (answerKeyer params u) (answerKeyer params v) := by
  unfold answerKeyer
  split
  · dsimp only
    split
    · exact .refuse h _
    · obtain ⟨keyer, next⟩ := (h.writeKeyer ‹Bool›).keyer
      simp only [State.setMixer_mixer] at keyer next
      exact .okay (h.writeKeyer _) (by rw [keyer, next])
  · exact .refuse h _

theorem SameAnswer.editWindow (n : BankName) (i : Fin 8) (w : Window) : SameAnswer (u.editWindow n i w) (v.editWindow n i w) := by
  unfold State.editWindow
  rw [h.banks]
  split
  · exact .refuse h _
  · exact .okay (h.setBanks _) rfl

theorem SameAnswer.windowSet : SameAnswer (answerWindowSet params u) (answerWindowSet params v) := by
  unfold answerWindowSet
  split
  · split
    · exact .editWindow h _ _ _
    · exact .refuse h _
  · exact .refuse h _

theorem SameAnswer.windowClear : SameAnswer (answerWindowClear params u) (answerWindowClear params v) := by
  unfold answerWindowClear
  split
  · split
    · exact .editWindow h _ _ _
    · exact .refuse h _
  · exact .refuse h _

theorem SameAnswer.bankSwap : SameAnswer (answerBankSwap params u) (answerBankSwap params v) := by
  unfold answerBankSwap
  rw [h.banks]
  split
  · split
    · exact .refuse h _
    · split
      · exact .refuse h _
      · exact .okay (h.setBanks _) rfl
  · exact .refuse h _

theorem SameAnswer.queryBank : SameAnswer (answerQueryBank params u) (answerQueryBank params v) := by
  unfold answerQueryBank
  rw [h.banks]
  split
  · split
    · exact .refuse h _
    · exact .okay h rfl
  · exact .refuse h _

theorem SameAnswer.queryMixer : SameAnswer (answerQueryMixer params u) (answerQueryMixer params v) := by
  unfold answerQueryMixer
  rw [h.latency, h.mixerBytes]
  split
  · exact .okay h rfl
  · exact .refuse h _

theorem SameAnswer.putFade (g : Fin 4) (f : Fade) : SameAnswer (u.putFade g f) (v.putFade g f) := by
  unfold State.putFade
  rw [h.fades]
  exact .okay (h.setFades _) rfl

theorem SameAnswer.fadeLoad : SameAnswer (answerFadeLoad params u) (answerFadeLoad params v) := by
  unfold answerFadeLoad
  rw [h.fades]
  split
  · split
    · exact .refuse h _
    · exact .putFade h _ _
  · exact .refuse h _

theorem SameAnswer.fadeHold : SameAnswer (answerFadeHold params u) (answerFadeHold params v) := by
  unfold answerFadeHold
  rw [h.fades]
  split
  · exact .putFade h _ _
  · exact .refuse h _

theorem SameAnswer.fadeResume : SameAnswer (answerFadeResume params u) (answerFadeResume params v) := by
  unfold answerFadeResume
  rw [h.fades]
  split
  · exact .putFade h _ _
  · exact .refuse h _

theorem SameAnswer.queryFade : SameAnswer (answerQueryFade params u) (answerQueryFade params v) := by
  unfold answerQueryFade
  rw [h.fades]
  split
  · exact .okay h rfl
  · exact .refuse h _

theorem SameAnswer.between {kind : Byte} {handler : State → Answer} (answer : betweenAnswer kind params = some handler) :
    SameAnswer (handler u) (handler v) := by
  unfold betweenAnswer at answer
  split_ifs at answer <;> cases answer
  · exact .keyer h params
  · exact .windowSet h params
  · exact .windowClear h params
  · exact .bankSwap h params
  · exact .queryBank h params
  · exact .queryMixer h params
  · exact .fadeLoad h params
  · exact .fadeHold h params
  · exact .fadeResume h params
  · exact .queryFade h params

theorem SameTitle.discardBytes (n : Nat) : SameTitle (u.discardBytes n) (v.discardBytes n) := by
  unfold State.discardBytes
  rw [h.link]
  dsimp only
  split <;> exact ⟨h.banks, h.fades, h.cues, rfl, h.mixer, h.latency⟩

theorem SameTitle.close {kind : Byte} {body body' : List Byte} (same : body' = body) :
    SameTitle (u.close kind body) (v.close kind body') := by
  unfold State.close
  rw [h.link, same]
  exact h.setLink _

theorem SameTitle.takeBetween (between : List Byte) : SameTitle (u.takeBetween between) (v.takeBetween between) := by
  unfold State.takeBetween
  split
  · exact h
  · rename_i kind params
    split
    · rename_i handler answer
      have same := SameAnswer.between h params answer
      unfold State.takeFrame
      rw [h.link]
      split
      · split
        · exact same.state.close (same.body kind)
        · split
          · exact h.discardBytes _
          · exact h
      · exact h
    · exact h

end

/-! ## The walk -/

section
variable {u v : State} (h : SameTitle u v)
include h

theorem SameTitle.act (i : Fin 64) (a : CueAction) : SameTitle (u.act i a).1 (v.act i a).1 ∧ (v.act i a).2 = (u.act i a).2 := by
  cases a with
  | swap copy =>
    simp only [State.act, State.actSwap]
    rw [h.banks]
    split
    · exact ⟨h.setBanks _, rfl⟩
    · exact ⟨h, rfl⟩
  | fade g p =>
    simp only [State.act]
    rw [h.fades]
    exact ⟨h.setFades _, trivial⟩
  | fadeHold g =>
    simp only [State.act]
    rw [h.fades]
    exact ⟨h.setFades _, trivial⟩
  | keyer x => exact ⟨h.writeKeyer x, rfl⟩
  | arm j =>
    simp only [State.act, State.actArm]
    rw [h.cues]
    split
    · exact ⟨h.setCues _, rfl⟩
    · exact ⟨h, rfl⟩
  | mark => exact ⟨h, rfl⟩

theorem SameTitle.fire (i : Fin 64) : SameTitle (u.fire i).1 (v.fire i).1 ∧ (v.fire i).2 = (u.fire i).2 := by
  unfold State.fire
  dsimp only
  rw [h.cues]
  obtain ⟨title, posts⟩ := h.act i (u.cues.records[i]).content.action
  rw [title.cues, posts]
  exact ⟨title.setCues _, rfl⟩

theorem SameTitle.foldl_visit (f : Count) (ids : List (Fin 64)) (ps : List Post) :
    SameTitle (ids.foldl (State.visit f) (u, ps)).1 (ids.foldl (State.visit f) (v, ps)).1 ∧
      (ids.foldl (State.visit f) (v, ps)).2 = (ids.foldl (State.visit f) (u, ps)).2 := by
  induction ids generalizing u v ps with
  | nil => exact ⟨h, rfl⟩
  | cons i ids ih =>
    rw [List.foldl_cons, List.foldl_cons]
    obtain ⟨title, posts⟩ := h.fire i
    unfold State.visit
    dsimp only
    rw [h.cues, posts]
    split
    · exact ih title _
    · exact ih h _

theorem SameTitle.walk (f : Count) : SameTitle (u.walk f).1 (v.walk f).1 ∧ (v.walk f).2 = (u.walk f).2 := by
  unfold State.walk
  rw [h.cues]
  exact h.foldl_visit f _ []

/-! ## What is performed at a field start (R99, R107) -/

theorem SameTitle.performed : SameTitle u.performed v.performed := by
  obtain ⟨keyer, next⟩ := h.keyer
  have banks := h.setBanks u.banks.perform.1
  unfold State.performed
  rw [Mixer.applyKeyer_eq, Mixer.applyKeyer_eq, h.banks, keyer, next]
  exact banks.setKeyer _ _

end

theorem Banks.perform_eq (b : Banks) : b.perform.1 = match b.swap with
    | none => b
    | some copy => { (if copy then b.setWindows b.live (b.windows b.live.other) else b) with live := b.live.other, swap := none } := by
  unfold Banks.perform
  cases b.swap with
  | none => rfl
  | some copy => cases copy <;> cases b.live <;> rfl

theorem State.begun_sameTitle (s : State) : SameTitle s.begun s.performed := by
  refine ⟨s.banks.perform_eq, rfl, rfl, rfl, ?_, rfl⟩
  change s.mixer.applyKeyer.1 =
    { s.begun.mixer with recorded := s.mixer.applyKeyer.1.recorded, pipeline := s.mixer.applyKeyer.1.pipeline }
  rw [Mixer.applyKeyer_eq]
  rfl

theorem State.perform_posts (s : State) : s.banks.perform.2 = swapPosts s := by
  unfold Banks.perform swapPosts
  cases s.banks.swap with
  | none => rfl
  | some copy => cases copy <;> rfl

theorem State.applyKeyer_posts (s : State) : s.mixer.applyKeyer.2 = keyerPosts s := by
  unfold Mixer.applyKeyer keyerPosts
  cases s.mixer.keyerNext with
  | none => rfl
  | some x => cases x <;> cases s.mixer.keyer <;> rfl

end Sys2Proof.Machine

/-! A generated field start: what it leaves of the title half, and its reports (R44, R99, R107, R112, R138, R150). -/

namespace Sys2Proof.Machine

/-! ## The live bank through the request and the walk (R103, R107, R143) -/

/-- The windows in use are those of another state: no request within a field start edits them or exchanges the banks. -/
def Banks.sameLive (b b' : Banks) : Prop := b'.live = b.live ∧ b'.windows b.live = b.windows b.live

theorem Banks.sameLive_refl (b : Banks) : b.sameLive b := ⟨rfl, rfl⟩

theorem Banks.sameLive_edit {b : Banks} {n : BankName} (allowed : b.editRefused n = false) (i : Fin 8) (w : Window) :
    b.sameLive (b.edit n i w) := by
  have other : n ≠ b.live := fun same => by
    rw [same] at allowed
    simp [Banks.editRefused] at allowed
  unfold Banks.sameLive Banks.edit Banks.setWindows Banks.windows
  cases hn : n <;> cases hl : b.live <;> simp_all

theorem State.editWindow_sameLive (s : State) (n : BankName) (i : Fin 8) (w : Window) :
    s.banks.sameLive (s.editWindow n i w).state.banks := by
  unfold State.editWindow
  split
  · exact Banks.sameLive_refl _
  · exact Banks.sameLive_edit (Bool.eq_false_of_not_eq_true ‹¬ _›) i w

theorem betweenAnswer_sameLive {kind : Byte} {params : List Byte} {handler : State → Answer}
    (answer : betweenAnswer kind params = some handler) (s : State) : s.banks.sameLive (handler s).state.banks := by
  have same := s.banks.sameLive_refl
  unfold betweenAnswer at answer
  split_ifs at answer <;> cases answer
  · unfold answerKeyer
    split
    · dsimp only
      split <;> exact same
    · exact same
  · unfold answerWindowSet
    split
    · split
      · exact s.editWindow_sameLive _ _ _
      · exact same
    · exact same
  · unfold answerWindowClear
    split
    · split
      · exact s.editWindow_sameLive _ _ _
      · exact same
    · exact same
  · unfold answerBankSwap
    split
    · split
      · exact same
      · split
        · exact same
        · rename_i b written
          unfold Banks.writeSwap at written
          split at written <;> cases written
          exact ⟨rfl, rfl⟩
    · exact same
  · unfold answerQueryBank
    split
    · split <;> exact same
    · exact same
  · unfold answerQueryMixer
    split <;> exact same
  · unfold answerFadeLoad
    split
    · split <;> exact same
    · exact same
  · unfold answerFadeHold
    split <;> exact same
  · unfold answerFadeResume
    split <;> exact same
  · unfold answerQueryFade
    split <;> exact same

theorem State.takeBetween_sameLive (s : State) (between : List Byte) : s.banks.sameLive (s.takeBetween between).banks := by
  unfold State.takeBetween
  split
  · exact s.banks.sameLive_refl
  · split
    · rename_i answer
      unfold State.takeFrame
      split
      · split
        · exact betweenAnswer_sameLive answer s
        · split
          · rw [Option.getD_some, State.discardBytes_eq]
            split <;> exact s.banks.sameLive_refl
          · exact s.banks.sameLive_refl
      · exact s.banks.sameLive_refl
    · exact s.banks.sameLive_refl

theorem State.walk_sameLive (s : State) (f : Count) : s.banks.sameLive (s.walk f).1.banks := by
  rw [s.walk_banks f]
  exact ⟨rfl, rfl⟩

/-- The walk writes no swap while one is pending. -/
theorem State.foldl_visit_swap (f : Count) (ids : List (Fin 64)) (a : State × List Post) {copy : Bool}
    (pending : a.1.banks.swap = some copy) : (ids.foldl (State.visit f) a).1.banks.swap = some copy := by
  have act : ∀ (s : State) (i : Fin 64) (x : CueAction), s.banks.swap = some copy → (s.act i x).1.banks.swap = some copy := by
    intro s i x h
    cases x with
    | swap c =>
      simp only [State.act, State.actSwap, Banks.writeSwap, h]
    | arm j =>
      simp only [State.act, State.actArm]
      split <;> exact h
    | fade g p => exact h
    | fadeHold g => exact h
    | keyer v => exact h
    | mark => exact h
  induction ids generalizing a with
  | nil => exact pending
  | cons i ids ih =>
    refine ih _ ?_
    unfold State.visit
    split
    · exact act a.1 i _ pending
    · exact pending

theorem State.walk_swap (s : State) (f : Count) {copy : Bool} (pending : s.banks.swap = some copy) :
    (s.walk f).1.banks.swap = some copy := State.foldl_visit_swap f _ _ pending

theorem State.begun_live (s : State) :
    s.begun.banks.live = (if s.banks.swap.isSome then s.banks.live.other else s.banks.live) := by
  unfold State.begun
  cases s.banks.swap <;> rfl

/-- The bank brought into use holds the windows it held; the other takes a copy of them when the swap says so. -/
theorem State.begun_windows (s : State) :
    s.begun.banks.windows s.begun.banks.live = s.banks.windows s.begun.banks.live ∧
    s.begun.banks.windows s.begun.banks.live.other =
      (if s.banks.swap = some true then s.banks.windows s.begun.banks.live else s.banks.windows s.begun.banks.live.other) := by
  unfold State.begun
  cases hs : s.banks.swap with
  | none => exact ⟨rfl, rfl⟩
  | some copy => cases copy <;> cases hl : s.banks.live <;> exact ⟨rfl, rfl⟩

/-! ## The order of the reports (R108, R150) -/

/-- Work in the order of strictly rising turns stands so in any arrangement by turns that holds it. -/
theorem sublist_of_turns (turn : Work → Nat) {xs ws : List (Work × List Post)}
    (rising : xs.Pairwise fun a b => turn a.1 < turn b.1) (member : ∀ x ∈ xs, x ∈ ws)
    (sorted : ws.Pairwise fun a b => turn a.1 ≤ turn b.1) : xs.Sublist ws := by
  induction xs generalizing ws with
  | nil => exact List.nil_sublist ws
  | cons x xs ih =>
    obtain ⟨first, rest⟩ := List.pairwise_cons.mp rising
    obtain ⟨before, after, rfl⟩ := List.append_of_mem (member x List.mem_cons_self)
    obtain ⟨-, tail, across⟩ := List.pairwise_append.mp sorted
    refine List.Sublist.trans (.cons_cons x (ih rest (fun y hy => ?_) (List.pairwise_cons.mp tail).2))
      (List.sublist_append_right before _)
    have later := first y hy
    obtain early | late := List.mem_append.mp (member y (List.mem_cons_of_mem x hy))
    · exact absurd (across y early x List.mem_cons_self) (Nat.not_le.mpr later)
    · obtain same | late := List.mem_cons.mp late
      · rw [same] at later
        exact absurd later (Nat.lt_irrefl _)
      · exact late

/-- Work whose order the rules settle posts in that order. -/
theorem State.workPosts_sublist (s : State) {ahead : Option Work} (walk : ahead ≠ some .walk) (fade : ∀ g, ahead ≠ some (.fade g))
    {xs ws : List (Work × List Post)} (settled : xs.Pairwise fun a b => settledBefore ahead a.1 b.1 = true)
    (member : ∀ x ∈ xs, x ∈ ws) : (xs.flatMap (·.2)).Sublist (s.workPosts ahead ws) := by
  rw [← flatMap_filter_nonempty xs]
  refine List.Sublist.flatMap ?_ _
  refine sublist_of_turns (workTurn s.draw ahead) ?_ (fun x hx => ?_) (arrangeWork_sorted s.draw walk fade ws)
  · exact (settled.imp fun h => settledBefore_turn s.draw walk fade h).sublist List.filter_sublist
  · obtain ⟨mem, posts⟩ := List.mem_filter.mp hx
    exact (arrangeWork_perm s.draw ahead ws).mem_iff.mpr (List.mem_filter.mpr ⟨member x mem, posts⟩)

theorem fadePosts_queue (fs : Vector Fade 4) (g : Fin 4) : ∀ p ∈ fadePosts fs g, p.queue = 2 := by
  unfold fadePosts
  dsimp only
  split
  · intro p hp
    rw [List.mem_singleton.mp hp]
    rfl
  · exact nofun

theorem swapPosts_queue (s : State) : ∀ p ∈ swapPosts s, p.queue = 2 := by
  unfold swapPosts
  split
  · exact nofun
  · intro p hp
    rw [List.mem_singleton.mp hp]

theorem keyerPosts_queue (s : State) : ∀ p ∈ keyerPosts s, p.queue = 2 := by
  unfold keyerPosts
  split
  · exact nofun
  · intro p hp
    rw [List.mem_singleton.mp hp]

/-- The CUE reports of a field start, whatever the order of the units. -/
theorem fieldWork_cuePosts {check bank mixer engine : List Post} (walk : List Post) (fs : Vector Fade 4)
    (checks : ∀ p ∈ check, p.queue = 0) (banks : ∀ p ∈ bank, p.queue = 2) (mixers : ∀ p ∈ mixer, p.queue = 2)
    (engines : ∀ p ∈ engine, p.queue = 0) :
    postsTo 2 ((fieldWork check bank mixer engine walk fs).flatMap (·.2)) =
      bank ++ mixer ++ postsTo 2 walk ++ fadePosts fs 0 ++ fadePosts fs 1 ++ fadePosts fs 2 ++ fadePosts fs 3 := by
  have none : ∀ {ps : List Post}, (∀ p ∈ ps, p.queue = 0) → postsTo 2 ps = [] := fun h => postsTo_none fun p hp => by
    rw [h p hp]
    exact nofun
  simp only [fieldWork, List.flatMap_cons, List.flatMap_nil, postsTo_append, none checks, none engines, postsTo_all banks,
    postsTo_all mixers, postsTo_all (fadePosts_queue fs _), List.append_assoc, List.append_nil, List.nil_append]

end Sys2Proof.Machine

namespace Sys2Proof.Machine

/-! ## A field start on a state with a given title half -/

section
variable {s u : State} (title : SameTitle s u) (check : List Post) (between : List Byte)
include title

theorem SameTitle.posts : swapPosts u = swapPosts s ∧ keyerPosts u = keyerPosts s := by
  obtain ⟨keyer, next⟩ := title.keyer
  unfold swapPosts keyerPosts
  rw [title.banks, keyer, next]
  exact ⟨rfl, rfl⟩

theorem SameTitle.orderedBy : u.orderedBy between = s.orderedBy between := by
  unfold State.orderedBy
  rw [title.link]

/-- The state on which the walk comes. -/
theorem SameTitle.mid :
    SameTitle (s.begun.takeBetween between) (u.performed.takeGeneratedField.1.takeBetween between) :=
  ((s.begun_sameTitle.trans title.performed).trans (LockEvent.takeGeneratedField u.performed).sameTitle).takeBetween between

/-- The title half that a field start leaves. -/
theorem State.takeField_title :
    let mid := s.begun.takeBetween between
    let w := mid.walk u.timing.count
    let t := u.takeField check between
    t.link = mid.link ∧ t.banks = w.1.banks ∧ (t.mixer.keyer, t.mixer.keyerNext) = (w.1.mixer.keyer, w.1.mixer.keyerNext) ∧
      t.cues = w.1.cues ∧ t.fades = w.1.fades.map fun f => f.endWalk.1 := by
  intro mid w t
  obtain ⟨walked, -⟩ := (title.mid between).walk u.timing.count
  have link : w.1.link = mid.link := State.walk_link ..
  have unfolded : t = _ := u.takeField_eq check between
  rw [unfolded, State.postWork_link, State.postWork_banks, State.postWork_mixer, State.postWork_cues, State.postWork_fades]
  refine ⟨walked.link.trans link, walked.banks, ?_, walked.cues, ?_⟩
  · obtain ⟨keyer, next⟩ := walked.keyer
    exact Prod.ext keyer next
  · exact congrArg (fun fs : Vector Fade 4 => fs.map fun f => f.endWalk.1) walked.fades

theorem State.fieldWorks_of_sameTitle :
    let w := (s.begun.takeBetween between).walk u.timing.count
    u.fieldWorks check between =
      fieldWork check (swapPosts s) (keyerPosts s) u.performed.takeGeneratedField.2 w.2 w.1.fades := by
  obtain ⟨walked, posts⟩ := (title.mid between).walk u.timing.count
  obtain ⟨swap, keyer⟩ := title.posts
  unfold State.fieldWorks
  dsimp only
  rw [posts, walked.fades, State.perform_posts, State.applyKeyer_posts, swap, keyer]

end

theorem State.fieldWalked_reports (u : State) (between : List Byte) : (u.fieldWalked between).timing.count = u.timing.count ∧
    ∀ q : Fin 4, (u.fieldWalked between).reports.queues[q] = u.reports.queues[q] := by
  have generated : u.performed.takeGeneratedField.1.reports = u.performed.reports := by
    unfold State.takeGeneratedField
    split
    · dsimp only
      split
      · exact State.changeLock_reports ..
      · rfl
    · rfl
  have between' : ∀ v : State, (v.takeBetween between).reports.queues = v.reports.queues := fun v => by
    obtain ⟨k, b, f, l, n, e⟩ := v.takeBetween_frame between
    rw [e]
    rfl
  constructor
  · change ((u.performed.takeGeneratedField.1.takeBetween between).walk u.timing.count).1.timing.count = _
    rw [State.walk_timing, State.takeBetween_timing, State.takeGeneratedField_count]
    rfl
  · intro q
    change (((u.performed.takeGeneratedField.1.takeBetween between).walk u.timing.count).1.reports.queues)[q] = _
    rw [State.walk_reports, between', generated]
    rfl

/-! ### The reports of a field start -/

/-- The work known to come before the walk is settled before it and before the generators' steps. -/
theorem settledBefore_ahead {a : Work} (walk : a ≠ .walk) (fade : ∀ g, a ≠ .fade g) :
    settledBefore (some a) a .walk = true ∧ ∀ g, settledBefore (some a) a (.fade g) = true := by
  cases a with
  | walk => exact absurd rfl walk
  | fade g => exact absurd rfl (fade g)
  | _ => simp [settledBefore]

section
variable {s u : State} (title : SameTitle s u) {check : List Post} (between : List Byte)
include title

/-- The CUE reports of the walk and of one generator, and those of a unit shown to perform before the walk, keep their order. -/
theorem State.fieldWorks_sublist (v : State) (g : Fin 4) {xs : List (Work × List Post)} (first : xs.length ≤ 1)
    (settled : ∀ x ∈ xs, s.orderedBy between = some x.1) (member : ∀ x ∈ xs, x ∈ u.fieldWorks check between) :
    let w := (s.begun.takeBetween between).walk u.timing.count
    (postsTo 2 (xs.flatMap (·.2)) ++ postsTo 2 w.2 ++ fadePosts w.1.fades g).Sublist
      (postsTo 2 (v.workPosts (u.orderedBy between) (u.fieldWorks check between))) := by
  intro w
  obtain ⟨walk, fade⟩ := u.orderedBy_ne between
  have works : u.fieldWorks check between =
      fieldWork check (swapPosts s) (keyerPosts s) u.performed.takeGeneratedField.2 w.2 w.1.fades :=
    State.fieldWorks_of_sameTitle title check between
  have ordered := title.orderedBy between
  have sublist := v.workPosts_sublist (xs := xs ++ [(.walk, w.2), (.fade g, fadePosts w.1.fades g)]) walk fade
    (ws := u.fieldWorks check between) ?_ ?_
  · have filtered := sublist.filter fun p : Post => p.queue = 2
    simp only [List.flatMap_append, List.flatMap_cons, List.flatMap_nil, List.append_nil, List.filter_append] at filtered
    have fades := postsTo_all (fadePosts_queue w.1.fades g)
    rw [postsTo] at fades
    rw [fades, ← List.append_assoc] at filtered
    exact filtered
  · refine List.pairwise_append.mpr ⟨?_, List.pairwise_pair.mpr rfl, fun x hx y hy => ?_⟩
    · match xs, first with
      | [], _ => exact .nil
      | [x], _ => exact List.pairwise_singleton _ x
    · have ahead := settled x hx
      rw [ordered, ahead]
      obtain ⟨beforeWalk, beforeFade⟩ := settledBefore_ahead
        (fun h => walk (ordered.trans (ahead.trans (congrArg some h))))
        (fun g h => fade g (ordered.trans (ahead.trans (congrArg some h))))
      obtain rfl | last := List.mem_cons.mp hy
      · exact beforeWalk
      · rw [List.mem_singleton.mp last]
        exact beforeFade g
  · intro x hx
    obtain unit | rest := List.mem_append.mp hx
    · exact member x unit
    · rw [works]
      obtain rfl | last := List.mem_cons.mp rest
      · simp [fieldWork]
      · rw [List.mem_singleton.mp last]
        have : g = 0 ∨ g = 1 ∨ g = 2 ∨ g = 3 := by omega
        rcases this with rfl | rfl | rfl | rfl <;> simp [fieldWork]

/-- The CUE queue after a field start with room for its reports. -/
theorem State.takeField_cuePosts (checks : ∀ p ∈ check, p.queue = 0) :
    let w := (s.begun.takeBetween between).walk u.timing.count
    let fade := fun g : Fin 4 => fadePosts w.1.fades g
    let walk := w.2.filter fun r => r.queue = 2
    let all := begunPosts s ++ walk ++ fade 0 ++ fade 1 ++ fade 2 ++ fade 3
    let ps := postsTo 2 ((u.fieldWalked between).workPosts (u.orderedBy between) (u.fieldWorks check between))
    ps.Perm all ∧ ((u.reports.queues[(2 : Fin 4)]).length + all.length ≤ 24 →
      (u.takeField check between).reports.queues[(2 : Fin 4)] =
        u.reports.queues[(2 : Fin 4)] ++ recordsOf u.timing.count ps) := by
  intro w fade walk all ps
  obtain ⟨count, queues⟩ := u.fieldWalked_reports between
  have perm : ps.Perm all := by
    refine (((u.fieldWalked between).workPosts_perm (u.orderedBy between) (u.fieldWorks check between)).filter _).trans ?_
    have works : u.fieldWorks check between =
        fieldWork check (swapPosts s) (keyerPosts s) u.performed.takeGeneratedField.2 w.2 w.1.fades :=
      State.fieldWorks_of_sameTitle title check between
    rw [works]
    exact .of_eq (fieldWork_cuePosts w.2 w.1.fades checks (swapPosts_queue s) (keyerPosts_queue s)
      u.performed.takeGeneratedField_posts_queue)
  refine ⟨perm, fun room => ?_⟩
  have posted := (u.fieldWalked between).postWork_recordsOf (u.orderedBy between) (u.fieldWorks check between) (q := 2)
  rw [count, queues 2] at posted
  exact posted (by rw [perm.length_eq]; exact room)

end

/-! ### The field start as the vocabulary states it -/

theorem betweenUnit_bank {kind : Byte} (h : kind = 0x34 ∨ kind = 0x35 ∨ kind = 0x36 ∨ kind = 0x37) :
    betweenUnit kind = some .bank := by
  rcases h with rfl | rfl | rfl | rfl <;> rfl

theorem betweenUnit_mixer {kind : Byte} (h : kind = 0x33 ∨ kind = 0x38) : betweenUnit kind = some .mixer := by
  rcases h with rfl | rfl <;> rfl

theorem State.orderedBy_taken {s : State} {kind : Byte} {params : List Byte} (taken : s.takes kind params) :
    s.orderedBy (kind :: params) = betweenUnit kind := if_pos taken

/-- A BANK SWAP request between the performance and the walk finds no swap pending (R108). -/
theorem State.takeBetween_bankSwap {s : State} {copy : Bool} (idle : s.banks.swap = none)
    (taken : s.takes 0x36 [BitVec.ofNat 8 (boolCode copy)]) :
    let t := s.takeBetween [0x36, BitVec.ofNat 8 (boolCode copy)]
    t.link.rx = .closed ∧ t.link.reply = replyFrame [0x36, 0, BitVec.ofNat 8 t.banks.live.code, 1] ∧
      t.banks.swap = some copy ∧ t.banks.live = s.banks.live := by
  have answer := answerBankSwap_of_code s (b := BitVec.ofNat 8 (boolCode copy)) (copy := copy) (by cases copy <;> rfl) idle
  obtain ⟨room, completes⟩ := taken
  have closed : s.takeBetween [0x36, BitVec.ofNat 8 (boolCode copy)] =
      (s.setBanks { s.banks with swap := some copy }).close 0x36 [0x36, 0, BitVec.ofNat 8 s.banks.live.code, 1] := by
    change (s.takeFrame 0x36 [BitVec.ofNat 8 (boolCode copy)] (answerBankSwap [BitVec.ofNat 8 (boolCode copy)])).getD s = _
    unfold State.takeFrame
    rw [if_pos room, if_pos completes, answer]
    rfl
  intro t
  rw [show t = _ from closed]
  exact ⟨rfl, rfl, rfl, rfl⟩

/-- The banks and the keyer after the request and the walk of a field start. -/
theorem State.begun_walked (s : State) (between : List Byte) (count : Count) :
    let w := (s.begun.takeBetween between).walk count
    w.1.banks.live = s.begun.banks.live ∧
      w.1.banks.windows s.begun.banks.live = s.banks.windows s.begun.banks.live ∧
      (between = [] → w.1.banks.windows s.begun.banks.live.other = s.begun.banks.windows s.begun.banks.live.other) ∧
      w.1.mixer.keyer = s.mixer.keyerNext.getD s.mixer.keyer := by
  intro w
  obtain ⟨live, windows⟩ := s.begun.takeBetween_sameLive between
  obtain ⟨live', windows'⟩ := (s.begun.takeBetween between).walk_sameLive count
  refine ⟨live'.trans live, ?_, ?_, ?_⟩
  · rw [live] at windows'
    exact windows'.trans (windows.trans s.begun_windows.1)
  · rintro rfl
    have banks : w.1.banks = { s.begun.banks with swap := w.1.banks.swap } := s.begun.walk_banks count
    rw [banks]
    rfl
  · have mixer := (s.begun.takeBetween between).walk_mixer count
    obtain ⟨k, b, f, l, n, e⟩ := s.begun.takeBetween_frame between
    rw [show w.1.mixer = _ from mixer, e]
    rfl

theorem State.fieldStart_timing_of {s u : State} (count : u.timing.count = s.timing.count) (load : u.timing.load = s.timing.load)
    (p : Parity) (cause : Cause) (check : List Post) (between : List Byte) :
    let t := u.fieldStart p cause check between
    t.timing.parity = p ∧ t.timing.count = s.timing.load.getD (s.timing.count + 1) ∧ t.timing.load = none ∧
      t.timing.fieldSync = some 3 := by
  intro t
  rw [show t.timing = _ from u.fieldStart_timing p cause check between]
  refine ⟨rfl, ?_, rfl, rfl⟩
  change u.timing.load.getD (u.timing.count + 1) = _
  rw [count, load]

/-- The CUE reports of a field start. -/
def cueReports (s t : State) (between : List Byte) (count : Count) : Prop :=
  let w := (s.begun.takeBetween between).walk count
  let walk := w.2.filter fun r => r.queue = 2
  let fade := fun g : Fin 4 => fadePosts w.1.fades g
  let all := begunPosts s ++ walk ++ fade 0 ++ fade 1 ++ fade 2 ++ fade 3
  (s.reports.queues[(2 : Fin 4)]).length + all.length ≤ 24 →
  ∃ rs : List Report, t.reports.queues[(2 : Fin 4)] = s.reports.queues[(2 : Fin 4)] ++ rs ∧
    rs.Perm (recordsOf count all) ∧ (∀ g, (recordsOf count (walk ++ fade g)).Sublist rs) ∧
    ∀ (kind : Byte) (params : List Byte), between = kind :: params → s.takes kind params →
      (kind = 0x34 ∨ kind = 0x35 ∨ kind = 0x36 ∨ kind = 0x37 →
        ∀ g, (recordsOf count (swapPosts s ++ walk ++ fade g)).Sublist rs) ∧
      (kind = 0x33 ∨ kind = 0x38 → ∀ g, (recordsOf count (keyerPosts s ++ walk ++ fade g)).Sublist rs)

theorem State.takeField_cueReports {s v : State} (title : SameTitle s v)
    (queue : v.reports.queues[(2 : Fin 4)] = s.reports.queues[(2 : Fin 4)]) {check : List Post}
    (checks : ∀ p ∈ check, p.queue = 0) (between : List Byte) :
    cueReports s (v.takeField check between) between v.timing.count := by
  unfold cueReports
  intro w walk fade all room
  obtain ⟨perm, posted⟩ := State.takeField_cuePosts title between checks
  have works : v.fieldWorks check between =
      fieldWork check (swapPosts s) (keyerPosts s) v.performed.takeGeneratedField.2 w.2 w.1.fades :=
    State.fieldWorks_of_sameTitle title check between
  rw [queue] at posted
  refine ⟨_, posted room, perm.map _, fun g => ?_, fun kind params body taken => ⟨fun banks g => ?_, fun mixers g => ?_⟩⟩
  · exact (State.fieldWorks_sublist title between (v.fieldWalked between) g (xs := []) (Nat.zero_le 1) nofun nofun).map _
  · have unit : s.orderedBy between = some .bank := by
      rw [body, State.orderedBy_taken taken, betweenUnit_bank banks]
    have sublist := State.fieldWorks_sublist title between (check := check) (v.fieldWalked between) g
      (xs := [(.bank, swapPosts s)]) (Nat.le_refl 1) (fun x hx => by rw [List.mem_singleton.mp hx]; exact unit)
      (fun x hx => by rw [List.mem_singleton.mp hx, works]; simp [fieldWork])
    rw [List.flatMap_singleton, postsTo_all (swapPosts_queue s)] at sublist
    exact sublist.map _
  · have unit : s.orderedBy between = some .mixer := by
      rw [body, State.orderedBy_taken taken, betweenUnit_mixer mixers]
    have sublist := State.fieldWorks_sublist title between (check := check) (v.fieldWalked between) g
      (xs := [(.mixer, keyerPosts s)]) (Nat.le_refl 1) (fun x hx => by rw [List.mem_singleton.mp hx]; exact unit)
      (fun x hx => by rw [List.mem_singleton.mp hx, works]; simp [fieldWork])
    rw [List.flatMap_singleton, postsTo_all (keyerPosts_queue s)] at sublist
    exact sublist.map _

/-- What a field start does to a state that has the title half, the CUE queue and the count of `s`. -/
theorem State.fieldStart_started {s u : State} (title : SameTitle s u) (count : u.timing.count = s.timing.count)
    (load : u.timing.load = s.timing.load) (queue : u.reports.queues[(2 : Fin 4)] = s.reports.queues[(2 : Fin 4)])
    (p : Parity) (cause : Cause) {check : List Post} (checks : ∀ p ∈ check, p.queue = 0) (between : List Byte) :
    fieldStarted s (u.fieldStart p cause check between) p between := by
  have away : ∀ p ∈ check, p.queue ≠ 2 := fun p hp => by
    rw [checks p hp]
    exact nofun
  have posted := LockEvent.checkPosted u away
  generalize hv : (u.checkPosted check).setTiming ((u.checkPosted check).timing.startField p cause) = v
  generalize hc : (if check.isEmpty || Config.checkResultFirst u.draw then [] else check) = rest
  have started : u.fieldStart p cause check between = v.takeField rest between := by rw [← hv, ← hc, State.fieldStart_eq]
  have timing := State.fieldStart_timing_of count load p cause check between
  have titled : SameTitle s v := by
    obtain ⟨banks, fades, cues, link, mixer, latency⟩ := title.trans posted.sameTitle
    rw [← hv]
    exact ⟨banks, fades, cues, link, mixer, latency⟩
  have counted : v.timing.count = s.timing.load.getD (s.timing.count + 1) := by
    rw [← hv, ← count, ← load, State.setTiming_timing, State.checkPosted_timing]
    rfl
  have queued : v.reports.queues[(2 : Fin 4)] = s.reports.queues[(2 : Fin 4)] := by
    rw [← queue, ← posted.queue, ← hv]
    rfl
  have rests : ∀ p ∈ rest, p.queue = 0 := by
    rw [← hc]
    split
    · exact nofun
    · exact checks
  obtain ⟨link, banks, keyer, cues, fades⟩ := State.takeField_title titled rest between
  have reports := State.takeField_cueReports titled queued rests between
  rw [counted] at banks keyer cues fades reports
  rw [started] at timing ⊢
  obtain ⟨live, windows, other, key⟩ := s.begun_walked between (s.timing.load.getD (s.timing.count + 1))
  simp only [Prod.mk.injEq] at keyer
  refine ⟨timing, ⟨?_, ?_, fun none => ?_, keyer.1.trans key⟩, link, ⟨banks, keyer.2, cues, fun g => ?_⟩, ?_, reports⟩
  · rw [banks, live, State.begun_live]
  · rw [banks, live, windows]
  · rw [banks, live, other none, s.begun_windows.2]
  · rw [fades]
    simp
  · rintro copy rfl taken
    have idle : s.begun.banks.swap = none := by
      unfold State.begun
      cases h : s.banks.swap with
      | none => exact h
      | some c => cases c <;> rfl
    obtain ⟨rx, reply, swap, keptLive⟩ := State.takeBetween_bankSwap (s := s.begun) idle taken
    rw [link, banks, live, ← keptLive]
    exact ⟨rx, reply, State.walk_swap _ _ swap⟩

end Sys2Proof.Machine

/-! The lock half at a generated line start: what the store's read leaves of the store, the engine and the queues (R53, R72 to R78). -/

namespace Sys2Proof.Machine

/-! ## The look-up as the store makes it -/

/-- The store that a look-up leaves, whether the line was found, and the report. -/
def Store.read (st : Store) (k : Key) : Store × Bool × List Post :=
  match st.lookUp k with
  | some i => (st.found i, true, match st.oldest (st.olderThan i) with
    | some j => [storePost .drop (st.olderThan i).length (st.slots[j]).key.code]
    | none => [])
  | none =>
    if st.filled.isEmpty then (st.freeShown, false, [])
    else (st, false, [storePost .repeated (boolCode st.shown.isSome) k.code])

/-- A look-up on a state is that of its store. -/
theorem State.storeLookUp_read (s : State) (k : Key) : ∃ l, s.storeLookUp k =
    (((s.setStore (s.store.read k).1).postAll (s.store.read k).2.2).setReports
      { ((s.setStore (s.store.read k).1).postAll (s.store.read k).2.2).reports with latched := l }, (s.store.read k).2.1) := by
  unfold State.storeLookUp
  cases found : s.store.lookUp k with
  | some i =>
    dsimp only
    cases dropped : s.store.oldest (s.store.olderThan i) with
    | some j =>
      rw [show s.store.read k = (s.store.found i, true,
        [storePost .drop (s.store.olderThan i).length (s.store.slots[j]).key.code]) by simp only [Store.read, found, dropped]]
      exact ⟨_, rfl⟩
    | none =>
      rw [show s.store.read k = (s.store.found i, true, []) by simp only [Store.read, found, dropped]]
      exact ⟨s.reports.latched, rfl⟩
  | none =>
    dsimp only
    by_cases starved : s.store.filled.isEmpty = true
    · rw [if_pos starved, show s.store.read k = (s.store.freeShown, false, []) by simp only [Store.read, found, if_pos starved]]
      exact ⟨s.reports.latched, rfl⟩
    · rw [if_neg starved, show s.store.read k = (s.store, false, [storePost .repeated (boolCode s.store.shown.isSome) k.code]) by
        simp only [Store.read, found, if_neg starved]]
      exact ⟨_, rfl⟩

section
variable (s : State) (k : Key)

theorem State.storeLookUp_store : (s.storeLookUp k).1.store = (s.store.read k).1 := by
  obtain ⟨l, e⟩ := s.storeLookUp_read k
  rw [e, State.setReports_store, State.postAll_store, State.setStore_store]

theorem State.storeLookUp_hit : (s.storeLookUp k).2 = (s.store.read k).2.1 := by
  obtain ⟨l, e⟩ := s.storeLookUp_read k
  rw [e]

theorem State.storeLookUp_queues :
    (s.storeLookUp k).1.reports.queues = ((s.setStore (s.store.read k).1).postAll (s.store.read k).2.2).reports.queues := by
  obtain ⟨l, e⟩ := s.storeLookUp_read k
  rw [e]
  rfl

theorem State.storeLookUp_others : (s.storeLookUp k).1.timing = s.timing ∧ (s.storeLookUp k).1.mixer = s.mixer := by
  obtain ⟨l, e⟩ := s.storeLookUp_read k
  rw [e]
  simp

end

theorem Store.read_posts (st : Store) (k : Key) : ∀ p ∈ (st.read k).2.2, p.queue = 1 := by
  have one : ∀ (kind : ReportKind) (a b : Nat), ∀ p ∈ [storePost kind a b], p.queue = 1 := fun kind a b p hp => by
    rw [List.mem_singleton.mp hp]
    rfl
  unfold Store.read
  split
  · dsimp only
    split
    · exact one _ _ _
    · exact nofun
  · split
    · exact nofun
    · exact one _ _ _

theorem Store.freeSlots_trim (st : Store) (is : List (Fin 8)) (v : Int) :
    ({ st with hLine := v } : Store).freeSlots is = { st.freeSlots is with hLine := v } := by
  unfold Store.freeSlots
  induction is generalizing st with
  | nil => rfl
  | cons i is ih => exact ih (st.freeSlot i)

theorem Store.freeShown_trim (st : Store) (v : Int) :
    ({ st with hLine := v } : Store).freeShown = { st.freeShown with hLine := v } := by
  obtain ⟨active, slots, seq, shown, sampling, lineOne, d, h, hLine⟩ := st
  cases shown <;> rfl

theorem Store.found_trim (st : Store) (i : Fin 8) (v : Int) :
    ({ st with hLine := v } : Store).found i = { st.found i with hLine := v } := by
  rw [Store.found_eq, Store.found_eq, Store.freeShown_trim, ← Store.freeSlots_trim]
  rfl

theorem Store.oldest_trim (st : Store) (is : List (Fin 8)) (v : Int) : ({ st with hLine := v } : Store).oldest is = st.oldest is := by
  induction is with
  | nil => rfl
  | cons i is ih =>
    unfold Store.oldest
    rw [ih]
    rfl

/-- The video trim of the line in progress takes no part in a look-up. -/
theorem Store.read_trim (st : Store) (k : Key) (v : Int) : ({ st with hLine := v } : Store).read k =
    ({ (st.read k).1 with hLine := v }, (st.read k).2) := by
  have lookUp : ({ st with hLine := v } : Store).lookUp k = st.lookUp k := rfl
  have filled : ({ st with hLine := v } : Store).filled = st.filled := rfl
  have older : ∀ i, ({ st with hLine := v } : Store).olderThan i = st.olderThan i := fun _ => rfl
  unfold Store.read
  rw [lookUp, filled]
  split
  · rw [Store.found_trim, older, Store.oldest_trim]
  · split
    · rw [Store.freeShown_trim]
    · rfl

theorem Store.read_frame (st : Store) (k : Key) :
    ((st.read k).1.active, (st.read k).1.lineOne, (st.read k).1.hLine) = (st.active, st.lineOne, st.hLine) := by
  have freeShown : (st.freeShown.active, st.freeShown.lineOne, st.freeShown.hLine) = (st.active, st.lineOne, st.hLine) := by
    unfold Store.freeShown
    split <;> rfl
  have freeSlots : ∀ (x : Store) (is : List (Fin 8)), ((x.freeSlots is).active, (x.freeSlots is).lineOne, (x.freeSlots is).hLine) =
      (x.active, x.lineOne, x.hLine) := fun x is => by
    unfold Store.freeSlots
    induction is generalizing x with
    | nil => rfl
    | cons i is ih => exact ih (x.freeSlot i)
  unfold Store.read
  split
  · rw [Store.found_eq]
    exact (freeSlots _ _).trans freeShown
  · split
    · exact freeShown
    · rfl

/-! ## The line-1 result in the lock engine (R53) -/

theorem State.takeLineOne_timing (s : State) (r : LineOne) : (s.takeLineOne r).1.timing = s.timing := by
  unfold State.takeLineOne State.dropLock
  split
  · split
    · rfl
    · dsimp only
      split
      · rw [State.changeLock_timing]
        rfl
      · rfl
  · rfl

theorem State.takeLineOne_store {s : State} (active : s.store.active = true) (r : LineOne) : (s.takeLineOne r).1.store = s.store := by
  unfold State.takeLineOne State.dropLock
  split
  · split
    · rfl
    · dsimp only
      split
      · rw [State.changeLock_store, Store.handed_kept _ rfl active]
      · rfl
  · rfl

theorem State.takeLineOne_other {s : State} (h : s.engine.lock ≠ .locked) (r : LineOne) : s.takeLineOne r = (s, []) := if_neg h

theorem State.takeLineOne_hit {s : State} (h : s.engine.lock = .locked) :
    s.takeLineOne .hit = (s.setEngine { s.engine with missRun := 0 }, []) := if_pos h

theorem State.takeLineOne_firstMiss {s : State} (h : s.engine.lock = .locked) (first : s.engine.missRun = 0) :
    s.takeLineOne .miss = (s.setEngine { s.engine with missRun := 1 }, []) := by
  unfold State.takeLineOne
  rw [if_pos h, first]
  rfl

theorem State.takeLineOne_secondMiss {s : State} (h : s.engine.lock = .locked) (second : 1 ≤ s.engine.missRun) :
    s.takeLineOne .miss = s.dropLock := by
  unfold State.takeLineOne
  rw [if_pos h]
  exact if_pos (by omega)

/-! ## The store's read -/

/-- Posts join the same queues with the same count. -/
theorem State.postAll_queues_congr {u v : State} (queues : v.reports.queues = u.reports.queues)
    (count : v.timing.count = u.timing.count) (ps : List Post) : (v.postAll ps).reports.queues = (u.postAll ps).reports.queues := by
  have join : ∀ (r r' : ReportUnit) (q : Fin 4) (x : Report), r'.queues = r.queues → (r'.join q x).queues = (r.join q x).queues := by
    intro r r' q x same
    unfold ReportUnit.join
    rw [same]
    split
    · rfl
    · exact same
  induction ps generalizing u v with
  | nil => exact queues
  | cons p ps ih =>
    refine ih (u := u.post p) (v := v.post p) ?_ count
    unfold State.post
    rw [count]
    exact join _ _ _ _ queues

/-- The state in which the lock engine finds a line-1 result. -/
def State.lookedUp (s : State) (k : Key) (lineOne : Option LineOne) : State :=
  let r := (s.setStore { s.store with hLine := s.store.h }).storeLookUp k
  r.1.setStore { r.1.store with lineOne := lineOne }

section
variable {s : State} (active : s.store.active = true) (k : Key)

theorem State.lookedUp_store (l : Option LineOne) : (s.lookedUp k l).store =
    { (s.store.read k).1 with hLine := s.store.h, lineOne := l } := by
  change ({ ((s.setStore { s.store with hLine := s.store.h }).storeLookUp k).1.store with lineOne := l } : Store) = _
  rw [State.storeLookUp_store, State.setStore_store, Store.read_trim]

theorem State.lookedUp_engine (l : Option LineOne) : (s.lookedUp k l).engine = s.engine :=
  (State.storeLookUp_engine (s.setStore { s.store with hLine := s.store.h }) k).trans rfl

theorem State.lookedUp_others (l : Option LineOne) : (s.lookedUp k l).timing = s.timing ∧ (s.lookedUp k l).mixer = s.mixer :=
  State.storeLookUp_others (s.setStore { s.store with hLine := s.store.h }) k

theorem State.lookedUp_queues (l : Option LineOne) : (s.lookedUp k l).reports.queues = (s.storeLookUp k).1.reports.queues := by
  change ((s.setStore { s.store with hLine := s.store.h }).storeLookUp k).1.reports.queues = _
  rw [State.storeLookUp_queues, State.storeLookUp_queues, State.setStore_store, Store.read_trim]
  refine State.postAll_queues_congr (u := s.setStore (s.store.read k).1) ?_ ?_ (s.store.read k).2.2 <;> rfl

include active

theorem State.storeRead_lineOne (first : k.line = 1) :
    let result : LineOne := if (s.store.read k).2.1 then .hit else .miss
    s.storeRead k = ((s.lookedUp k (some result)).takeLineOne result).1.postAll
      ((s.lookedUp k (some result)).takeLineOne result).2 := by
  have hit : ((s.setStore { s.store with hLine := s.store.h }).storeLookUp k).2 = (s.store.read k).2.1 := by
    rw [State.storeLookUp_hit, State.setStore_store, Store.read_trim]
  unfold State.storeRead
  dsimp only
  rw [if_pos (by exact active), if_pos first, hit]
  rfl

theorem State.storeRead_later (later : k.line ≠ 1) : s.storeRead k = s.lookedUp k s.store.lineOne := by
  have kept := congrArg (·.2.1) (Store.read_frame { s.store with hLine := s.store.h } k)
  have lineOne : ((s.setStore { s.store with hLine := s.store.h }).storeLookUp k).1.store.lineOne = s.store.lineOne := by
    rw [State.storeLookUp_store]
    exact kept
  unfold State.storeRead State.lookedUp
  dsimp only
  rw [if_pos (by exact active), if_neg later]
  generalize ((s.setStore { s.store with hLine := s.store.h }).storeLookUp k).1 = v at lineOne
  rw [← lineOne]
  rfl

/-- The store after its read. -/
theorem State.storeRead_store : (s.storeRead k).store = { (s.store.read k).1 with
    hLine := s.store.h
    lineOne := if k.line = 1 then some (if (s.store.read k).2.1 then .hit else .miss) else s.store.lineOne } := by
  have stays : ∀ l, (s.lookedUp k l).store.active = true := fun l => by
    rw [State.lookedUp_store]
    exact (congrArg (·.1) (s.store.read_frame k)).trans active
  by_cases first : k.line = 1
  · rw [State.storeRead_lineOne active k first, State.postAll_store, State.takeLineOne_store (stays _), State.lookedUp_store,
      if_pos first]
  · rw [State.storeRead_later active k first, State.lookedUp_store, if_neg first]

end

section
variable (s : State) (k : Key)

theorem State.storeRead_timing_eq : (s.storeRead k).timing = s.timing := by
  by_cases active : s.store.active = true
  · by_cases first : k.line = 1
    · rw [State.storeRead_lineOne active k first, State.postAll_timing, State.takeLineOne_timing]
      exact (State.lookedUp_others k _).1
    · rw [State.storeRead_later active k first]
      exact (State.lookedUp_others k _).1
  · rw [State.storeRead_idle (by simpa using active)]
    rfl

/-- The reports of the read stand in the STORE queue, those of a line-1 result in the LOCK queue. -/
theorem State.storeRead_storeQueue (active : s.store.active = true) :
    (s.storeRead k).reports.queues[(1 : Fin 4)] = (s.storeLookUp k).1.reports.queues[(1 : Fin 4)] := by
  by_cases first : k.line = 1
  · generalize hl : (if (s.store.read k).2.1 then .hit else .miss : LineOne) = l
    have read := State.storeRead_lineOne active k first
    dsimp only at read
    rw [hl] at read
    have taken : ((s.lookedUp k (some l)).takeLineOne l).1.reports = (s.lookedUp k (some l)).reports := by
      unfold State.takeLineOne State.dropLock
      split
      · split
        · rfl
        · dsimp only
          split
          · exact State.changeLock_reports ..
          · rfl
      · rfl
    rw [read, State.postAll_queue_ne, taken, State.lookedUp_queues]
    intro p hp
    rw [State.takeLineOne_posts_queue _ _ p hp]
    exact nofun
  · rw [State.storeRead_later active k first, State.lookedUp_queues]

variable {s}

/-- Out of LOCKED the engine does not see the read. -/
theorem State.storeRead_other (h : s.engine.lock ≠ .locked) : (s.storeRead k).engine = s.engine ∧ (s.storeRead k).mixer = s.mixer ∧
    (s.storeRead k).reports.queues[(0 : Fin 4)] = s.reports.queues[(0 : Fin 4)] := by
  have looked : ∀ l, (s.lookedUp k l).reports.queues[(0 : Fin 4)] = s.reports.queues[(0 : Fin 4)] := fun l => by
    rw [State.lookedUp_queues, State.storeLookUp_queues, State.postAll_queue_ne]
    · rfl
    · intro p hp
      rw [Store.read_posts _ _ p hp]
      exact nofun
  by_cases active : s.store.active = true
  · by_cases first : k.line = 1
    · generalize hl : (if (s.store.read k).2.1 then .hit else .miss : LineOne) = l
      have read := State.storeRead_lineOne active k first
      dsimp only at read
      rw [hl] at read
      have free : (s.lookedUp k (some l)).engine.lock ≠ .locked := by
        rw [State.lookedUp_engine]
        exact h
      rw [read, State.takeLineOne_other free, State.postAll_nil]
      exact ⟨State.lookedUp_engine k _, (State.lookedUp_others k _).2, looked _⟩
    · rw [State.storeRead_later active k first]
      exact ⟨State.lookedUp_engine k _, (State.lookedUp_others k _).2, looked _⟩
  · rw [State.storeRead_idle (by simpa using active)]
    exact ⟨rfl, rfl, rfl⟩

/-- In LOCKED the line-1 result alone reaches the engine, and other lines do not. -/
theorem State.storeRead_later_engine (later : k.line ≠ 1) : (s.storeRead k).engine = s.engine := by
  by_cases active : s.store.active = true
  · rw [State.storeRead_later active k later]
    exact State.lookedUp_engine k _
  · rw [State.storeRead_idle (by simpa using active)]
    rfl

section
variable (active : s.store.active = true) (locked : s.engine.lock = .locked) (first : k.line = 1)
include active locked first

/-- A hit ends a miss run, and the first miss begins one. -/
theorem State.storeRead_counted (counted : (s.storeLookUp k).2 = true ∨ s.engine.missRun = 0) :
    (s.storeRead k).engine = { s.engine with missRun := if (s.storeLookUp k).2 = true then 0 else 1 } := by
  have read := State.storeRead_lineOne active k first
  have engine := State.lookedUp_engine (s := s) k
  rw [State.storeLookUp_hit] at counted ⊢
  cases hit : (s.store.read k).2.1 with
  | true =>
    simp only [hit, if_true] at read
    rw [read, State.takeLineOne_hit (by rw [engine]; exact locked), State.postAll_engine, State.setEngine_engine, engine]
    rfl
  | false =>
    have none : s.engine.missRun = 0 := counted.resolve_left (by rw [hit]; exact nofun)
    simp only [hit, Bool.false_eq_true, if_false] at read
    rw [read, State.takeLineOne_firstMiss (by rw [engine]; exact locked) (by rw [engine]; exact none), State.postAll_engine,
      State.setEngine_engine, engine]
    rfl

/-- The second miss in a row drops lock. -/
theorem State.storeRead_dropped (missed : (s.storeLookUp k).2 = false) (second : 1 ≤ s.engine.missRun) :
    let t := s.storeRead k
    t.engine.lock = .acquire ∧ t.engine.missRun = 0 ∧ t.engine.dropRun = 0 ∧ t.engine.lockRun = 0 ∧ t.engine.vmatch = false := by
  intro t
  have read := State.storeRead_lineOne active k first
  have engine := State.lookedUp_engine (s := s) k
  rw [State.storeLookUp_hit] at missed
  simp only [missed, Bool.false_eq_true, if_false] at read
  rw [show t = _ from read, State.takeLineOne_secondMiss (by rw [engine]; exact locked) (by rw [engine]; exact second),
    State.postAll_engine]
  unfold State.dropLock
  rw [State.changeLock_engine]
  exact ⟨rfl, rfl, rfl, rfl, rfl⟩

end
end

end Sys2Proof.Machine

/-! The lock half at a field start: HOLDOVER counts it, and the LOCK queue takes the reports (R54, R55, R61, R150). -/

namespace Sys2Proof.Machine

/-! ## The lock engine at a field start -/

/-- A field start in the lock half: what the engine's count leaves in the engine, the store, the record of the lock state and the
jam countdown. -/
structure Counted (u t : State) : Prop where
  engine : t.engine = u.takeGeneratedField.1.engine
  store : t.store = u.takeGeneratedField.1.store
  recorded : t.mixer.recorded = u.takeGeneratedField.1.mixer.recorded
  jam : t.timing.jam = u.takeGeneratedField.1.timing.jam

/-- The count reads the lock half alone. -/
theorem State.takeGeneratedField_congr {u v : State} (engine : v.engine = u.engine) (store : v.store = u.store)
    (recorded : v.mixer.recorded = u.mixer.recorded) (jam : v.timing.jam = u.timing.jam) :
    Counted u v.takeGeneratedField.1 ∧ v.takeGeneratedField.2 = u.takeGeneratedField.2 := by
  by_cases holds : u.engine.lock = .holdover
  · by_cases ends : u.engine.holdover - 1 = 0
    · have take : ∀ w : State, w.engine = u.engine →
          w.takeGeneratedField = w.changeLock .free true { u.engine with holdover := u.engine.holdover - 1 }.freeRun := by
        intro w e
        unfold State.takeGeneratedField
        rw [e, if_pos holds]
        exact if_pos ends
      refine ⟨⟨?_, ?_, ?_, ?_⟩, ?_⟩ <;> rw [take v engine, take u rfl]
      · rw [State.changeLock_engine, State.changeLock_engine, engine]
      · rw [State.changeLock_store, State.changeLock_store, store]
      · rw [State.changeLock_mixer, State.changeLock_mixer]
      · rw [changeLock_timing_of_cancels v rfl, changeLock_timing_of_cancels u rfl]
      · rw [State.changeLock_changePosts, State.changeLock_changePosts, engine]
    · have take : ∀ w : State, w.engine = u.engine →
          w.takeGeneratedField = (w.setEngine { u.engine with holdover := u.engine.holdover - 1 }, []) := by
        intro w e
        unfold State.takeGeneratedField
        rw [e, if_pos holds]
        exact if_neg ends
      rw [take v engine]
      refine ⟨⟨?_, ?_, ?_, ?_⟩, ?_⟩ <;> rw [take u rfl]
      · rfl
      · exact store
      · exact recorded
      · exact jam
  · have other : v.engine.lock ≠ .holdover := by
      rw [engine]
      exact holds
    rw [v.takeGeneratedField_other other]
    refine ⟨⟨?_, ?_, ?_, ?_⟩, ?_⟩ <;> rw [u.takeGeneratedField_other holds]
    · exact engine
    · exact store
    · exact recorded
    · exact jam

section
variable (s : State) (between : List Byte)

theorem State.takeBetween_store : (s.takeBetween between).store = s.store := by
  obtain ⟨k, b, f, l, n, e⟩ := s.takeBetween_frame between
  rw [e]
  rfl

theorem State.takeBetween_cues : (s.takeBetween between).cues = s.cues := by
  obtain ⟨k, b, f, l, n, e⟩ := s.takeBetween_frame between
  rw [e]
  rfl

theorem State.takeBetween_mixer :
    (s.takeBetween between).mixer = { s.mixer with keyerNext := (s.takeBetween between).mixer.keyerNext } := by
  obtain ⟨k, b, f, l, n, e⟩ := s.takeBetween_frame between
  rw [e]
  rfl

end

theorem Counted.congr {u v t : State} (h : Counted v t) (engine : v.engine = u.engine) (store : v.store = u.store)
    (recorded : v.mixer.recorded = u.mixer.recorded) (jam : v.timing.jam = u.timing.jam) : Counted u t := by
  obtain ⟨⟨engine, store, recorded, jam⟩, -⟩ := State.takeGeneratedField_congr engine store recorded jam
  exact ⟨h.engine.trans engine, h.store.trans store, h.recorded.trans recorded, h.jam.trans jam⟩

theorem State.fieldWalked_counted (v : State) (between : List Byte) :
    Counted v (v.fieldWalked between) ∧ v.performed.takeGeneratedField.2 = v.takeGeneratedField.2 := by
  obtain ⟨⟨engine, store, recorded, jam⟩, posts⟩ := State.takeGeneratedField_congr (u := v) (v := v.performed) rfl rfl
    ((congrArg Mixer.recorded v.mixer.applyKeyer_eq).trans rfl) rfl
  have mixer := (v.performed.takeGeneratedField.1.takeBetween between).walk_mixer v.timing.count
  have recorded' := congrArg Mixer.recorded (v.performed.takeGeneratedField.1.takeBetween_mixer between)
  refine ⟨⟨?_, ?_, ?_, ?_⟩, posts⟩
  · exact (State.walk_engine _ v.timing.count).trans ((State.takeBetween_engine _ between).trans engine)
  · exact (State.walk_store _ v.timing.count).trans ((State.takeBetween_store _ between).trans store)
  · exact (congrArg Mixer.recorded mixer).trans (recorded'.trans recorded)
  · have timing := (State.walk_timing _ v.timing.count).trans (State.takeBetween_timing v.performed.takeGeneratedField.1 between)
    exact (congrArg Timing.jam timing).trans jam

/-- The state on which the work of a field start comes, with what is left to post of a check. -/
def State.fieldBegun (u : State) (p : Parity) (cause : Cause) (check : List Post) : State :=
  (u.checkPosted check).setTiming ((u.checkPosted check).timing.startField p cause)

theorem State.checkPosted_others (u : State) (check : List Post) :
    (u.checkPosted check).engine = u.engine ∧ (u.checkPosted check).store = u.store ∧ (u.checkPosted check).mixer = u.mixer ∧
      (u.checkPosted check).cues = u.cues := by
  unfold State.checkPosted
  dsimp only
  split
  · split <;> simp
  · split <;> simp

theorem State.fieldStart_begun (u : State) (p : Parity) (cause : Cause) (check : List Post) (between : List Byte) :
    u.fieldStart p cause check between = (u.fieldBegun p cause check).takeField
      (if check.isEmpty || Config.checkResultFirst u.draw then [] else check) between := rfl

/-- The lock half after a field start, whatever the check and the request. -/
theorem State.fieldStart_counted (u : State) (p : Parity) (cause : Cause) (check : List Post) (between : List Byte) :
    Counted u (u.fieldStart p cause check between) := by
  obtain ⟨engine, store, mixer, -⟩ := u.checkPosted_others check
  obtain ⟨⟨engine', store', recorded', jam'⟩, -⟩ := State.takeGeneratedField_congr (u := u) (v := u.fieldBegun p cause check)
    engine store (congrArg Mixer.recorded mixer) ((congrArg Timing.jam (u.checkPosted_timing check)).trans rfl)
  obtain ⟨⟨engine'', store'', recorded'', jam''⟩, -⟩ := (u.fieldBegun p cause check).fieldWalked_counted between
  rw [State.fieldStart_begun, State.takeField_eq]
  refine ⟨?_, ?_, ?_, ?_⟩
  · rw [State.postWork_engine, engine'', engine']
  · rw [State.postWork_store, store'', store']
  · rw [State.postWork_mixer, recorded'', recorded']
  · rw [State.postWork_timing, jam'', jam']

/-- Of the mixer a field start moves the keyer, its pending state and the record of the lock state. -/
theorem State.fieldStart_mixer (u : State) (p : Parity) (cause : Cause) (check : List Post) (between : List Byte) :
    let t := u.fieldStart p cause check between
    t.mixer = { u.mixer with keyer := t.mixer.keyer, keyerNext := t.mixer.keyerNext, recorded := t.mixer.recorded } := by
  have generated : ∀ v : State, v.takeGeneratedField.1.mixer = { v.mixer with recorded := v.takeGeneratedField.1.mixer.recorded } :=
    fun v => (LockEvent.takeGeneratedField v).half.1.2.2.1
  have walked : ∀ v : State, (v.fieldWalked between).mixer = { v.mixer with
      keyer := (v.fieldWalked between).mixer.keyer, keyerNext := (v.fieldWalked between).mixer.keyerNext
      recorded := (v.fieldWalked between).mixer.recorded } := by
    intro v
    have mixer : (v.fieldWalked between).mixer = _ :=
      (v.performed.takeGeneratedField.1.takeBetween between).walk_mixer v.timing.count
    rw [State.takeBetween_mixer] at mixer
    have performed : v.performed.mixer = _ := v.mixer.applyKeyer_eq
    have taken := generated v.performed
    rw [performed] at taken
    rw [taken] at mixer
    rw [mixer]
  intro t
  have unfolded : t.mixer = ((u.fieldBegun p cause check).fieldWalked between).mixer := State.postWork_mixer ..
  have mixer : (u.fieldBegun p cause check).mixer = u.mixer := (u.checkPosted_others check).2.2.1
  rw [unfolded, ← mixer]
  exact walked _

/-! ### HOLDOVER -/

section
variable {u t : State} (h : Counted u t)
include h

theorem Counted.other (other : u.engine.lock ≠ .holdover) :
    t.engine = u.engine ∧ t.store = u.store ∧ t.mixer.recorded = u.mixer.recorded ∧ t.timing.jam = u.timing.jam := by
  obtain ⟨engine, store, recorded, jam⟩ := h
  rw [u.takeGeneratedField_other other] at engine store recorded jam
  exact ⟨engine, store, recorded, jam⟩

theorem Counted.counts (holds : u.engine.lock = .holdover) (more : 2 ≤ u.engine.holdover) :
    t.engine = { u.engine with holdover := u.engine.holdover - 1 } ∧ t.store = u.store ∧
      t.mixer.recorded = u.mixer.recorded ∧ t.timing.jam = u.timing.jam := by
  have take : u.takeGeneratedField = (u.setEngine { u.engine with holdover := u.engine.holdover - 1 }, []) := by
    unfold State.takeGeneratedField
    rw [if_pos holds]
    exact if_neg (by omega)
  obtain ⟨engine, store, recorded, jam⟩ := h
  rw [take] at engine store recorded jam
  exact ⟨engine, store, recorded, jam⟩

end

theorem State.takeGeneratedField_frees {u : State} (holds : u.engine.lock = .holdover) (last : u.engine.holdover ≤ 1) :
    u.takeGeneratedField = u.changeLock .free true { u.engine with holdover := u.engine.holdover - 1 }.freeRun := by
  unfold State.takeGeneratedField
  rw [if_pos holds]
  exact if_pos (by omega)

theorem Counted.frees {u t : State} (h : Counted u t) (holds : u.engine.lock = .holdover) (last : u.engine.holdover ≤ 1) :
    t.engine = { u.engine with
      lock := .free, unlocked := true, atLimit := false, holdover := 0, k := u.engine.k0, i := 0, s := 0 } ∧
    t.store = u.store.goneIdle ∧ t.mixer.recorded = .free ∧ t.timing.jam = none := by
  obtain ⟨engine, store, recorded, jam⟩ := h
  rw [State.takeGeneratedField_frees holds last] at engine store recorded jam
  rw [State.changeLock_engine] at engine
  rw [State.changeLock_store, Store.handed_goneIdle _ rfl] at store
  rw [State.changeLock_mixer] at recorded
  rw [changeLock_timing_of_cancels u rfl] at jam
  refine ⟨?_, store, recorded, jam⟩
  have ended : u.engine.holdover - 1 = 0 := by omega
  rw [engine, ended]
  simp only [Bool.not_true, Bool.and_false]
  rfl

/-! ## The LOCK queue at a field start -/

/-- A queue to which one piece of work posts takes its reports in their order. -/
theorem State.workPosts_only (s : State) {ahead : Option Work} (walk : ahead ≠ some .walk) (fade : ∀ g, ahead ≠ some (.fade g))
    {q : Fin 4} {x : Work × List Post} {ws : List (Work × List Post)} (member : x ∈ ws)
    (alone : postsTo q (ws.flatMap (·.2)) = postsTo q x.2) : postsTo q (s.workPosts ahead ws) = postsTo q x.2 := by
  have sublist := s.workPosts_sublist walk fade (xs := [x]) (List.pairwise_singleton _ x) (ws := ws) fun y hy => by
    rw [List.mem_singleton.mp hy]
    exact member
  rw [List.flatMap_singleton] at sublist
  have perm := (s.workPosts_perm ahead ws).filter fun p => p.queue = q
  have length : (postsTo q (s.workPosts ahead ws)).length = (postsTo q x.2).length := by
    rw [← alone]
    exact perm.length_eq
  exact ((sublist.filter fun p : Post => p.queue = q).eq_of_length length.symm).symm

/-- With no cue armed the walk posts nothing. -/
theorem State.walk_unarmed {s : State} (unarmed : s.cues.armed = []) (f : Count) : s.walk f = (s, []) := by
  unfold State.walk
  rw [unarmed]
  rfl

section
variable {v : State} (unarmed : v.cues.armed = []) {check : List Post} (checks : ∀ p ∈ check, p.queue = 0) (between : List Byte)
include unarmed checks

theorem State.fieldWorks_lockPosts :
    postsTo 0 ((v.fieldWorks check between).flatMap (·.2)) = check ++ v.takeGeneratedField.2 := by
  have cues : (v.performed.takeGeneratedField.1.takeBetween between).cues = v.cues :=
    (State.takeBetween_cues _ between).trans (LockEvent.takeGeneratedField v.performed).sameTitle.cues
  have none : ∀ {ps : List Post}, (∀ p ∈ ps, p.queue = 2) → postsTo 0 ps = [] := fun h => postsTo_none fun p hp => by
    rw [h p hp]
    exact nofun
  have swap := v.perform_posts
  have keyer := v.applyKeyer_posts
  unfold State.fieldWorks
  dsimp only
  rw [State.walk_unarmed (by rw [cues]; exact unarmed), swap, keyer, (v.fieldWalked_counted between).2]
  simp only [fieldWork, List.flatMap_cons, List.flatMap_nil, postsTo_append, postsTo_all checks,
    postsTo_all v.takeGeneratedField_posts_queue, none (swapPosts_queue v), none (keyerPosts_queue v), none (fadePosts_queue _ _),
    List.append_nil, List.nil_append]

/-- The LOCK queue after a field start whose reports there come from the check or from the engine alone. -/
theorem State.takeField_lockPosts (alone : check = [] ∨ v.takeGeneratedField.2 = [])
    (room : (v.reports.queues[(0 : Fin 4)]).length + (check ++ v.takeGeneratedField.2).length ≤ 24) :
    (v.takeField check between).reports.queues[(0 : Fin 4)] =
      v.reports.queues[(0 : Fin 4)] ++ recordsOf v.timing.count (check ++ v.takeGeneratedField.2) := by
  obtain ⟨walk, fade⟩ := v.orderedBy_ne between
  obtain ⟨count, queues⟩ := v.fieldWalked_reports between
  have works := State.fieldWorks_lockPosts unarmed checks between
  have ordered : postsTo 0 ((v.fieldWalked between).workPosts (v.orderedBy between) (v.fieldWorks check between)) =
      check ++ v.takeGeneratedField.2 := by
    have engines := postsTo_all v.takeGeneratedField_posts_queue
    obtain none | none := alone
    · rw [none, List.nil_append, ← engines]
      refine State.workPosts_only _ walk fade (x := (.engine, v.takeGeneratedField.2)) ?_ ?_
      · have posts := (v.fieldWalked_counted between).2
        unfold State.fieldWorks
        dsimp only
        rw [posts]
        simp [fieldWork]
      · rw [← none, works, none, List.nil_append, engines]
    · rw [none, List.append_nil, ← postsTo_all checks]
      refine State.workPosts_only _ walk fade (x := (.check, check)) ?_ ?_
      · simp [State.fieldWorks, fieldWork, postsTo_all checks]
      · rw [postsTo_all checks, works, none, List.append_nil]
  have posted := (v.fieldWalked between).postWork_recordsOf (v.orderedBy between) (v.fieldWorks check between) (q := 0)
  rw [ordered, count, queues 0] at posted
  exact posted room

end

/-- The engine's reports of a field start at which no check completes. -/
theorem State.fieldStart_enginePosts {u : State} (unarmed : u.cues.armed = []) (p : Parity) (cause : Cause) (between : List Byte)
    (room : (u.reports.queues[(0 : Fin 4)]).length + u.takeGeneratedField.2.length ≤ 24) :
    let t := u.fieldStart p cause [] between
    t.reports.queues[(0 : Fin 4)] = u.reports.queues[(0 : Fin 4)] ++ recordsOf t.timing.count u.takeGeneratedField.2 := by
  intro t
  have posts : (u.fieldBegun p cause []).takeGeneratedField.2 = u.takeGeneratedField.2 :=
    (State.takeGeneratedField_congr (u := u) (v := u.fieldBegun p cause []) rfl rfl rfl rfl).2
  have posted := State.takeField_lockPosts (v := u.fieldBegun p cause []) unarmed (check := []) nofun between (Or.inl rfl)
  rw [posts] at posted
  have count : t.timing.count = (u.fieldBegun p cause []).timing.count := by
    rw [show t.timing = _ from u.fieldStart_timing p cause [] between]
    rfl
  rw [count]
  exact posted room

/-- The reports of a completed check, before the field start with the old count or among its reports (log 11). -/
theorem State.fieldStart_checkPosts {u : State} (unarmed : u.cues.armed = []) (other : u.engine.lock ≠ .holdover) (p : Parity)
    (cause : Cause) {check : List Post} (checks : ∀ p ∈ check, p.queue = 0) (between : List Byte)
    (room : (u.reports.queues[(0 : Fin 4)]).length + check.length ≤ 24) :
    let t := u.fieldStart p cause check between
    ∃ count, (count = u.timing.count ∨ count = t.timing.count) ∧
      t.reports.queues[(0 : Fin 4)] = u.reports.queues[(0 : Fin 4)] ++ recordsOf count check := by
  intro t
  obtain ⟨engine, store, mixer, cues⟩ := u.checkPosted_others check
  have quiet : (u.fieldBegun p cause check).takeGeneratedField.2 = [] := by
    rw [State.takeGeneratedField_other]
    change (u.checkPosted check).engine.lock ≠ _
    rw [engine]
    exact other
  have unarmed' : (u.fieldBegun p cause check).cues.armed = [] := by
    change (u.checkPosted check).cues.armed = []
    rw [cues]
    exact unarmed
  have begun : (u.fieldBegun p cause check).reports = (u.checkPosted check).reports := rfl
  have count : t.timing.count = (u.fieldBegun p cause check).timing.count := by
    change _ = ((u.checkPosted check).timing.startField p cause).count
    rw [show t.timing = _ from u.fieldStart_timing p cause check between, u.checkPosted_timing]
  by_cases first : (check.isEmpty || Config.checkResultFirst u.draw) = true
  · have posted : (u.checkPosted check).reports = (u.postAll check).reports := by
      unfold State.checkPosted
      dsimp only
      rw [if_pos first]
      split <;> rfl
    have stood := State.takeField_lockPosts (v := u.fieldBegun p cause check) unarmed' (check := []) nofun between (Or.inl rfl)
    have queue := u.postAll_recordsOf check (q := 0)
    rw [postsTo_all checks] at queue
    rw [quiet, begun, posted, queue room] at stood
    refine ⟨u.timing.count, Or.inl rfl, ?_⟩
    rw [show t = _ from u.fieldStart_begun p cause check between, if_pos first, stood]
    · exact List.append_nil _
    · rw [List.length_append]
      unfold recordsOf
      rw [List.length_map]
      exact room
  · have posted : (u.checkPosted check).reports = u.reports := by
      unfold State.checkPosted
      dsimp only
      rw [if_neg first]
      split <;> rfl
    have stood := State.takeField_lockPosts (v := u.fieldBegun p cause check) unarmed' checks between (Or.inr quiet)
    rw [quiet, begun, posted, List.append_nil] at stood
    refine ⟨t.timing.count, Or.inr rfl, ?_⟩
    rw [count, show t = _ from u.fieldStart_begun p cause check between, if_neg first]
    exact stood room

end Sys2Proof.Machine

/-! A generated line start and the pixel behind it (R42, R72 to R78, R85, R89 to R91). -/

namespace Sys2Proof.Machine

/-! ## The pixel clock (R89 to R91) -/

section
variable {m : Mixer} {latency : Nat} {p : Pixel} {index : BitVec 4} {lineSync fieldSync : Bool}

/-- While no more than latency pixels wait the output is black. -/
theorem Mixer.clock_waits (short : m.pipeline.length + 1 ≤ latency) :
    let m' := (m.clock latency p index lineSync fieldSync).1
    m'.output.pixel = Sample.black ∧ m'.pipeline = m.pipeline ++ [p] ∧ m'.clip = m.clip := by
  obtain ⟨d, l, f, e⟩ := Mixer.delaySyncs_eq { m with pipeline := m.pipeline ++ [p] } latency lineSync fieldSync
  unfold Mixer.clock
  rw [e]
  unfold Mixer.pair
  dsimp only
  have length : (m.pipeline ++ [p]).length ≤ latency := by
    rw [List.length_append]
    exact short
  split
  · rename_i q rest front
    rw [front, List.length_cons] at length
    rw [if_neg (by omega)]
    exact ⟨rfl, rfl, rfl⟩
  · rename_i empty
    exact absurd empty (List.concat_ne_nil p m.pipeline)

/-- Once more wait the oldest leaves, formed with the index and the context of its line. -/
theorem Mixer.clock_pairs {q : Pixel} {rest : List Pixel} (front : m.pipeline ++ [p] = q :: rest) (full : latency ≤ rest.length) :
    let m' := (m.clock latency p index lineSync fieldSync).1
    let f := q.form (m.contextOf q) index
    m'.pipeline = rest ∧ m'.output.pixel = f.1 ∧
      (f.2 = none → m'.clip = m.clip) ∧
      (∀ kind, f.2 = some kind → m'.clip = some ⟨kind, q.key, q.count⟩ ∧ (m.clock latency p index lineSync fieldSync).2 = true) := by
  obtain ⟨d, l, f, e⟩ := Mixer.delaySyncs_eq { m with pipeline := m.pipeline ++ [p] } latency lineSync fieldSync
  unfold Mixer.clock
  rw [e]
  unfold Mixer.pair
  dsimp only
  rw [front]
  dsimp only
  rw [if_pos full]
  have context : ∀ d o, ({ m with pipeline := q :: rest, syncDelay := d, output := o } : Mixer).contextOf q = m.contextOf q :=
    fun _ _ => rfl
  rw [context]
  cases (q.form (m.contextOf q) index).2 with
  | none => exact ⟨rfl, rfl, fun _ => rfl, nofun⟩
  | some kind =>
    refine ⟨rfl, rfl, nofun, fun kind' same => ?_⟩
    cases same
    exact ⟨rfl, rfl⟩

theorem Mixer.mem_clock {q : Pixel} (h : q ∈ (m.clock latency p index lineSync fieldSync).1.pipeline) : q ∈ m.pipeline ∨ q = p := by
  have joined : q ∈ m.pipeline ++ [p] := by
    by_cases short : m.pipeline.length + 1 ≤ latency
    · rw [(Mixer.clock_waits short).2.1] at h
      exact h
    · cases front : m.pipeline ++ [p] with
      | nil => exact absurd front (List.concat_ne_nil p m.pipeline)
      | cons r rest =>
        have length := congrArg List.length front
        simp only [List.length_append, List.length_cons, List.length_nil] at length
        rw [(Mixer.clock_pairs front (by omega)).1] at h
        exact List.mem_cons_of_mem r h
  obtain old | new := List.mem_append.mp joined
  · exact Or.inl old
  · exact Or.inr (List.mem_singleton.mp new)

end

/-! ## The tick around its event -/

section
variable {s t u : State} {p : Parity} {between : List Byte}

/-- What `fieldStarted` says of the state after it. -/
def State.fieldView (s : State) : Banks × Vector Fade 4 × CuePool × Link × (Bool × Option Bool) ×
    (Parity × Count × Option Count × Option Nat) × List Report :=
  (s.banks, s.fades, s.cues, s.link, (s.mixer.keyer, s.mixer.keyerNext),
    (s.timing.parity, s.timing.count, s.timing.load, s.timing.fieldSync), s.reports.queues[(2 : Fin 4)])

theorem fieldStarted_of_view (h : fieldStarted s t p between) (same : u.fieldView = t.fieldView) : fieldStarted s u p between := by
  unfold State.fieldView at same
  simp only [Prod.mk.injEq] at same
  obtain ⟨banks, fades, cues, link, ⟨keyer, next⟩, ⟨parity, count, load, sync⟩, queue⟩ := same
  unfold fieldStarted at h ⊢
  rw [banks, fades, cues, link, keyer, next, parity, count, load, sync, queue]
  exact h

theorem State.carryTick_view (s : State) (index : BitVec 4) (ref : Sample) (event : State → State) :
    (s.carryTick index ref event).fieldView = (event s.carried).fieldView := by
  obtain ⟨-, -, -, -, timing, -, banks, fades, cues, link, -, queues⟩ := s.carryTick_keeps index ref event
  have mixer := s.carryTick_mixer_frame index ref event
  unfold State.fieldView
  rw [banks, fades, cues, link, timing, queues, mixer]
  rfl

end

/-! ## The line start (R42, R85) -/

/-- The state in which the line start finds the mixer. -/
def State.afterRead (s : State) : State := (s.setTiming s.timing.startLine).storeRead s.timing.startLine.key

section
variable (s : State) (stamp : Stamp)

theorem State.lineStart_eq : s.lineStart stamp =
    (s.afterRead.setMixer s.afterRead.mixer.loadContext).setEngine (s.afterRead.engine.record stamp) := rfl

theorem State.afterRead_event : LockEvent (s.setTiming s.timing.startLine) s.afterRead := .storeRead _ _

theorem State.afterRead_timing : s.afterRead.timing = s.timing.startLine := State.storeRead_timing_eq _ _

theorem State.afterRead_mixer : s.afterRead.mixer = { s.mixer with recorded := s.afterRead.mixer.recorded } :=
  s.afterRead_event.half.1.2.2.1

theorem State.afterRead_history : s.afterRead.engine.history = s.engine.history := by
  have taken : ∀ (u : State) (r : LineOne), (u.takeLineOne r).1.engine.history = u.engine.history := by
    intro u r
    unfold State.takeLineOne State.dropLock
    split
    · split
      · rfl
      · dsimp only
        split
        · rw [State.changeLock_engine]
        · rfl
    · rfl
  have read : ∀ (u : State) (k : Key), (u.storeRead k).engine.history = u.engine.history := by
    intro u k
    by_cases active : u.store.active = true
    · by_cases first : k.line = 1
      · rw [State.storeRead_lineOne active k first, State.postAll_engine, taken, State.lookedUp_engine]
      · rw [State.storeRead_later active k first, State.lookedUp_engine]
    · rw [State.storeRead_idle (by simpa using active)]
      rfl
  exact read _ _

theorem State.lineStart_timing_eq : (s.lineStart stamp).timing = s.timing.startLine := s.afterRead_timing

theorem State.lineStart_view : (s.lineStart stamp).fieldView = s.fieldView := by
  obtain ⟨⟨⟨-, -, mixer, banks, fades, cues, link, -⟩, -⟩, -, -, -, queue⟩ := s.afterRead_event
  have timing := s.afterRead_timing
  unfold State.fieldView
  rw [State.lineStart_eq]
  simp only [State.setEngine_banks, State.setMixer_banks, State.setEngine_fades, State.setMixer_fades, State.setEngine_cues,
    State.setMixer_cues, State.setEngine_link, State.setMixer_link, State.setEngine_mixer, State.setMixer_mixer,
    State.setEngine_timing, State.setMixer_timing, State.setEngine_reports, State.setMixer_reports]
  rw [banks, fades, cues, link, timing, queue, mixer]
  rfl

end

section
variable {s v : State} {event : State → State} (index : BitVec 4) (ref : Sample)
  (made : event s.carried = v.lineStart s.lineStamp) (clocked : Clocked s.carried v)
include made clocked

/-- What a line start at a carry leaves in each unit. -/
theorem State.carryTick_lineBegun (pixel : v.timing.pixel = 0) (history : v.engine.history = s.engine.history)
    (ctx : v.mixer.ctx = s.mixer.ctx) : lineBegun s (s.carryTick index ref event) := by
  obtain ⟨-, -, -, engine, timing, -⟩ := s.carryTick_keeps index ref event
  have mixer := s.carryTick_mixer index ref event
  have frame := s.carryTick_mixer_frame index ref event
  rw [show event (s.accumulate.setTiming s.accumulate.timing.advancePixel) = v.lineStart s.lineStamp from made,
    State.lineStart_eq] at engine timing
  rw [made, State.lineStart_eq] at mixer frame
  have timed : (s.carryTick index ref event).timing = v.timing.startLine := timing.trans v.afterRead_timing
  have settings := clocked.settings
  have raster := clocked.raster
  simp only [Prod.mk.injEq] at settings raster
  obtain ⟨table, matte, policy⟩ := settings
  obtain ⟨-, lpix, -⟩ := raster
  refine ⟨?_, ?_, ?_, ?_, ?_, ?_, ?_, fun q hq => ?_⟩
  · rw [timed]
    exact pixel
  · rw [timed]
    rfl
  · rw [timed]
    change some (v.timing.lpix / 16) = _
    rw [lpix]
    rfl
  · rw [engine]
    change (s.lineStamp :: v.afterRead.engine.history).take 3 = _
    rw [v.afterRead_history, history]
    rfl
  · rw [frame]
    change (⟨v.afterRead.mixer.table, v.afterRead.mixer.matte, v.afterRead.mixer.policy, v.afterRead.mixer.recorded.source⟩ : LineContext) =
      ⟨_, _, _, match v.afterRead.mixer.recorded with
        | .acquire | .locked => .store
        | .free | .holdover | .internal => .matte⟩
    rw [v.afterRead_mixer]
    change (⟨v.mixer.table, v.mixer.matte, v.mixer.policy, v.afterRead.mixer.recorded.source⟩ : LineContext) = _
    rw [table, matte, policy]
    cases v.afterRead.mixer.recorded <;> rfl
  · rw [frame]
    change v.afterRead.mixer.ctx = _
    rw [v.afterRead_mixer]
    exact ctx
  · rw [frame]
    rfl
  · rw [mixer] at hq
    obtain old | rfl := Mixer.mem_clock hq
    · obtain ⟨q', -, rfl⟩ := List.mem_map.mp old
      exact Or.inl rfl
    · right
      rw [timed]
      change v.afterRead.timing.key = _ ∧ v.afterRead.timing.pixel = 0
      rw [v.afterRead_timing]
      exact ⟨rfl, pixel⟩

/-- The store and the line-1 result at a line start, the lock half before it being that of `s` but for a field counted in HOLDOVER. -/
theorem State.carryTick_lineRead {k : Key} (key : v.timing.startLine.key = k)
    (idle : s.lockOk → s.store.active = false → v.store.active = false ∧ v.store.lineOne = s.store.lineOne ∧
      v.store.sampling = none ∧ (s.store.slotsOk → v.store = s.store))
    (active : s.lockOk → s.store.active = true → v.store = s.store ∧
      (s.engine.lock = .locked → v.engine.lock = .locked ∧ v.engine.missRun = s.engine.missRun)) :
    lineRead s (s.carryTick index ref event) k ref := by
  obtain ⟨-, -, -, engine, -, store, -⟩ := s.carryTick_keeps index ref event
  rw [show event (s.accumulate.setTiming s.accumulate.timing.advancePixel) = v.lineStart s.lineStamp from made] at engine store
  have stamp : (v.lineStart s.lineStamp).stamp = s.stamp := (Clocked.lineStart v _).stamp.trans clocked.stamp
  have read : (v.lineStart s.lineStamp).store = ((v.setTiming v.timing.startLine).storeRead k).store := by
    rw [← key]
    rfl
  have trim : v.store.h = s.store.h := congrArg (·.2.1) clocked.store
  rw [stamp, read] at store
  have recorded : (s.carryTick index ref event).engine = ((v.setTiming v.timing.startLine).storeRead k).engine.record s.lineStamp := by
    rw [engine, ← key]
    rfl
  refine ⟨?_, fun ok off => ?_, fun ok on => ?_⟩
  · rw [store, Store.sampleTick_eq]
    by_cases on : v.store.active = true
    · rw [State.storeRead_store (s := v.setTiming v.timing.startLine) on]
      exact trim
    · rw [State.storeRead_idle (s := v.setTiming v.timing.startLine) (by simpa using on)]
      exact trim
  · obtain ⟨off', lineOne, sampling, same⟩ := idle ok off
    rw [State.storeRead_idle (s := v.setTiming v.timing.startLine) off', State.setStore_store, State.setTiming_store,
      Store.sampleTick_none _ _ _ (by exact sampling)] at store
    rw [store]
    refine ⟨off', lineOne, fun slots => ?_⟩
    rw [trim, same slots]
  · obtain ⟨same, counts⟩ := active ok on
    have on' : (v.setTiming v.timing.startLine).store.active = true := by
      rw [State.setTiming_store, same]
      exact on
    have hit : ((v.setTiming v.timing.startLine).storeLookUp k).2 = (s.storeLookUp k).2 := by
      rw [State.storeLookUp_hit, State.storeLookUp_hit, State.setTiming_store, same]
    rw [State.storeRead_store on', State.setTiming_store, same] at store
    refine ⟨?_, fun locked first found => ?_, fun locked first missed none => ?_, fun locked first missed second => ?_,
      fun locked later => ?_⟩
    · rw [store, State.storeLookUp_store, State.storeLookUp_hit]
    · obtain ⟨lock, run⟩ := counts locked
      rw [recorded, State.storeRead_counted k on' lock first (Or.inl (hit.trans found)), hit, found]
      exact ⟨lock, rfl⟩
    · obtain ⟨lock, run⟩ := counts locked
      rw [recorded, State.storeRead_counted k on' lock first (Or.inr (run.trans none)), hit, missed]
      exact ⟨lock, rfl⟩
    · obtain ⟨lock, run⟩ := counts locked
      rw [recorded]
      exact State.storeRead_dropped k on' lock first (hit.trans missed) (by rw [State.setTiming_engine, run]; exact second)
    · obtain ⟨lock, run⟩ := counts locked
      rw [recorded]
      change ((v.setTiming v.timing.startLine).storeRead k).engine.lock = .locked ∧
        ((v.setTiming v.timing.startLine).storeRead k).engine.missRun = _
      rw [State.storeRead_later_engine k later]
      exact ⟨lock, run⟩

end

/-! ## The lock half before the line start -/

/-- A store that is idle and in order is as a change of lock state to an idle one leaves it. -/
theorem Store.goneIdle_of_idle {st : Store} (ok : st.slotsOk) (off : st.active = false) (free : ∀ i, st.role i = .free)
    (shown : st.shown = none) (sampling : st.sampling = none) : st.goneIdle = st := by
  obtain ⟨-, -, -, cleared, -⟩ := ok
  have slots : st.slots = Vector.replicate 8 Slot.cleared := by
    refine Vector.ext fun i hi => ?_
    rw [Vector.getElem_replicate]
    exact cleared ⟨i, hi⟩ (free ⟨i, hi⟩)
  unfold Store.goneIdle
  rw [← slots, ← shown, ← off]
  rw [← sampling]

section
variable {s v : State} (h : Counted s v)
include h

/-- A field start leaves an idle store idle, and in order unchanged. -/
theorem Counted.store_idle (empty : s.store.idleEmpty) (off : s.store.active = false) : v.store.active = false ∧
    v.store.lineOne = s.store.lineOne ∧ v.store.sampling = none ∧ v.store.shown = none ∧ (s.store.slotsOk → v.store = s.store) := by
  obtain ⟨free, shown, sampling⟩ := empty off
  have kept (same : v.store = s.store) : v.store.active = false ∧ v.store.lineOne = s.store.lineOne ∧ v.store.sampling = none ∧
      v.store.shown = none ∧ (s.store.slotsOk → v.store = s.store) := by
    rw [same]
    exact ⟨off, rfl, sampling, shown, fun _ => rfl⟩
  by_cases holds : s.engine.lock = .holdover
  · by_cases last : s.engine.holdover ≤ 1
    · obtain ⟨-, store, -⟩ := h.frees holds last
      rw [store]
      exact ⟨rfl, rfl, rfl, rfl, fun slots => Store.goneIdle_of_idle slots off free shown sampling⟩
    · exact kept (h.counts holds (by omega)).2.1
  · exact kept (h.other holds).2.1

/-- An active store sees nothing of it. -/
theorem Counted.store_active (ok : s.lockOk) (on : s.store.active = true) : v.store = s.store ∧ v.engine = s.engine := by
  obtain ⟨active, -⟩ := ok
  have other : s.engine.lock ≠ .holdover := by
    obtain lock | lock := active.mp on <;> rw [lock] <;> exact nofun
  exact ⟨(h.other other).2.1, (h.other other).1⟩

theorem Counted.history : v.engine.history = s.engine.history := by
  by_cases holds : s.engine.lock = .holdover
  · by_cases last : s.engine.holdover ≤ 1
    · rw [(h.frees holds last).1]
    · rw [(h.counts holds (by omega)).1]
  · rw [(h.other holds).1]

theorem Counted.jam_none (calm : s.timing.jam = none) : v.timing.jam = none := by
  by_cases holds : s.engine.lock = .holdover
  · by_cases last : s.engine.holdover ≤ 1
    · exact (h.frees holds last).2.2.2
    · exact (h.counts holds (by omega)).2.2.2.trans calm
  · exact (h.other holds).2.2.2.trans calm

end

end Sys2Proof.Machine

/-! The generated line start and the mid-line field start (R42, R43, R55). -/

namespace Sys2Proof.Machine

/-! ## HOLDOVER at a natural field start (R55) -/

/-- The state before the field start has the lock half, the cues and the LOCK queue of `s`, and what comes after the field start
does not touch the engine but for the history, nor the LOCK queue. -/
theorem State.fieldStart_holdoverCounted {s u t : State} (p : Parity) (cause : Cause) (between : List Byte)
    (engine : u.engine = s.engine) (cues : u.cues = s.cues) (queue : u.reports.queues[(0 : Fin 4)] = s.reports.queues[(0 : Fin 4)])
    (rest : (u.fieldStart p cause [] between).engine.lock ≠ .locked →
      { t.engine with history := s.engine.history } = (u.fieldStart p cause [] between).engine ∧
      t.timing.count = (u.fieldStart p cause [] between).timing.count ∧
      t.reports.queues[(0 : Fin 4)] = (u.fieldStart p cause [] between).reports.queues[(0 : Fin 4)]) :
    holdoverCounted s t := by
  have counted := u.fieldStart_counted p cause [] between
  refine ⟨fun holds more => ?_, fun holds last => ?_⟩
  · have now := (counted.counts (by rw [engine]; exact holds) (by rw [engine]; exact more)).1
    rw [engine] at now
    rw [(rest (by rw [now, holds]; exact nofun)).1, now]
  · have now := (counted.frees (by rw [engine]; exact holds) (by rw [engine, last])).1
    rw [engine] at now
    obtain ⟨after, count, posted⟩ := rest (by rw [now]; exact nofun)
    refine ⟨by rw [after, now], fun unarmed room => ?_⟩
    have posts : u.takeGeneratedField.2 = changePosts .holdover .free true s.engine.atLimit := by
      rw [State.takeGeneratedField_frees (by rw [engine]; exact holds) (by rw [engine, last]), State.changeLock_changePosts, engine,
        holds]
    have length := changePosts_length .holdover .free true s.engine.atLimit
    have stood := State.fieldStart_enginePosts (u := u) (by rw [cues]; exact unarmed) p cause between
    rw [posts, queue] at stood
    rw [posted, count]
    exact stood (by omega)

/-! ## The wrap of the pixel counter (R42, R43) -/

theorem Timing.naturalKey_some {t : Timing} {p : Parity} (h : t.naturalStart = some p) : t.naturalKey = ⟨p, 1⟩ := by
  unfold Timing.naturalKey
  rw [h]

theorem Timing.naturalKey_none {t : Timing} (h : t.naturalStart = none) :
    t.naturalKey = if t.newField then ⟨t.parity, 1⟩ else ⟨t.parity, t.key.line + 1⟩ := by
  unfold Timing.naturalKey
  rw [h]

/-- The state after the countdowns of a line start at a carry. -/
def State.lineStarting (s : State) : State := s.carried.setTiming s.carried.timing.beginLine

/-- The state before the line start of a wrap. -/
def State.wrapped (s : State) (between : List Byte) : State := s.lineStarting.naturalField between

section
variable (s : State) (between : List Byte)

theorem State.wrapped_none (none : s.timing.naturalStart = none) : s.wrapped between = s.lineStarting := by
  have same : s.lineStarting.timing.naturalStart = s.timing.naturalStart := rfl
  unfold State.wrapped State.naturalField
  rw [same, none]

theorem State.wrapped_some {p : Parity} (some : s.timing.naturalStart = some p) :
    s.wrapped between = s.lineStarting.fieldStart p .natural [] between := by
  have same : s.lineStarting.timing.naturalStart = s.timing.naturalStart := rfl
  unfold State.wrapped State.naturalField
  rw [same, some]

theorem State.wrapEvent_eq (stamp : Stamp) : State.wrapEvent stamp between s.carried = (s.wrapped between).lineStart stamp := rfl

theorem State.wrapped_clocked : Clocked s.carried (s.wrapped between) :=
  (Clocked.beginLine _).trans (Clocked.naturalField _ between)

variable {s}

/-- The lock half at the line start of a wrap is that of `s`, but for the field counted in HOLDOVER. -/
theorem State.wrapped_lockHalf :
    (s.lockOk → s.store.active = false → (s.wrapped between).store.active = false ∧
      (s.wrapped between).store.lineOne = s.store.lineOne ∧ (s.wrapped between).store.sampling = none ∧
      (s.store.slotsOk → (s.wrapped between).store = s.store)) ∧
    (s.lockOk → s.store.active = true → (s.wrapped between).store = s.store ∧ (s.wrapped between).engine = s.engine) ∧
    (s.wrapped between).engine.history = s.engine.history ∧ (s.wrapped between).mixer.ctx = s.mixer.ctx := by
  cases natural : s.timing.naturalStart with
  | none =>
    rw [s.wrapped_none between natural]
    refine ⟨fun ok off => ?_, fun ok on => ⟨rfl, rfl⟩, rfl, rfl⟩
    exact ⟨off, rfl, (ok.2.1 off).2.2, fun _ => rfl⟩
  | some p =>
    rw [s.wrapped_some between natural]
    have counted := s.lineStarting.fieldStart_counted p .natural [] between
    refine ⟨fun ok off => ?_, fun ok on => counted.store_active ok on, counted.history, ?_⟩
    · obtain ⟨off', lineOne, sampling, -, same⟩ := counted.store_idle ok.2.1 off
      exact ⟨off', lineOne, sampling, same⟩
    · rw [State.fieldStart_mixer]
      rfl

/-- The timing at the line start of a wrap. -/
theorem State.wrapped_timing (wraps : s.timing.wraps = true) :
    (s.wrapped between).timing.pixel = 0 ∧ (s.wrapped between).timing.frameRestart = false ∧
      (s.wrapped between).timing.restartPending = s.timing.restartPending ∧
      (s.wrapped between).timing.startLine.key = s.timing.naturalKey := by
  have pixel : s.lineStarting.timing.pixel = 0 := if_pos wraps
  cases natural : s.timing.naturalStart with
  | none =>
    rw [s.wrapped_none between natural]
    exact ⟨pixel, rfl, rfl, (Timing.naturalKey_none natural).symm⟩
  | some p =>
    rw [s.wrapped_some between natural, State.fieldStart_timing, Timing.naturalKey_some natural]
    exact ⟨pixel, rfl, rfl, rfl⟩

/-- A pending jam countdown counts the line start, where no field counted in HOLDOVER can cancel it. -/
theorem State.wrapped_jam (stands : s.timing.jam = none ∨ s.engine.lock ≠ .holdover) :
    (s.wrapped between).timing.jam = s.timing.jam.bind Jam.lineStart := by
  cases natural : s.timing.naturalStart with
  | none =>
    rw [s.wrapped_none between natural]
    rfl
  | some p =>
    rw [s.wrapped_some between natural]
    have counted := s.lineStarting.fieldStart_counted p .natural [] between
    obtain calm | other := stands
    · have begun : s.lineStarting.timing.jam = none := congrArg (·.bind Jam.lineStart) calm
      rw [counted.jam_none begun, calm]
      rfl
    · exact (counted.other other).2.2.2

theorem State.wrapped_engine (uncounted : s.timing.naturalStart = none ∨ s.engine.lock ≠ .holdover) :
    (s.wrapped between).engine = s.engine := by
  cases natural : s.timing.naturalStart with
  | none =>
    rw [s.wrapped_none between natural]
    rfl
  | some p =>
    rw [s.wrapped_some between natural]
    have other := uncounted.resolve_left (by rw [natural]; exact nofun)
    exact ((s.lineStarting.fieldStart_counted p .natural [] between).other other).1

end

section
variable {s : State} (index : BitVec 4) (ref : Sample) (between : List Byte)

/-- The tick of a generated line start. -/
def State.lineTicked (s : State) (index : BitVec 4) (ref : Sample) (between : List Byte) : State :=
  s.carryTick index ref (State.wrapEvent s.lineStamp between)

theorem State.lineTicked_timing : (s.lineTicked index ref between).timing = (s.wrapped between).timing.startLine := by
  obtain ⟨-, -, -, -, timing, -⟩ := s.carryTick_keeps index ref (State.wrapEvent s.lineStamp between)
  rw [← State.carried, State.wrapEvent_eq, State.lineStart_timing_eq] at timing
  exact timing

/-- Out of LOCKED a line start moves of the engine the history alone, and nothing of its queue. -/
theorem State.lineTicked_other (other : (s.wrapped between).engine.lock ≠ .locked) :
    (s.lineTicked index ref between).engine = (s.wrapped between).engine.record s.lineStamp ∧
      (s.lineTicked index ref between).reports.queues[(0 : Fin 4)] = (s.wrapped between).reports.queues[(0 : Fin 4)] := by
  obtain ⟨-, -, -, engine, -, -, -, -, -, -, -, queues⟩ := s.carryTick_keeps index ref (State.wrapEvent s.lineStamp between)
  obtain ⟨read, -, queue⟩ := State.storeRead_other (s := (s.wrapped between).setTiming (s.wrapped between).timing.startLine)
    (s.wrapped between).timing.startLine.key other
  rw [← State.carried, State.wrapEvent_eq, State.lineStart_eq] at engine queues
  rw [State.setEngine_engine] at engine
  refine ⟨engine.trans (congrArg (fun e : Engine => e.record s.lineStamp) read), ?_⟩
  exact (congrArg (fun q : Vector (List Report) 4 => q[(0 : Fin 4)]) queues).trans queue

theorem State.lineTicked_started {p : Parity} (natural : s.timing.naturalStart = some p) :
    fieldStarted s (s.lineTicked index ref between) p between ∧ holdoverCounted s (s.lineTicked index ref between) := by
  have wrapped := s.wrapped_some between natural
  have started : fieldStarted s (s.wrapped between) p between := by
    rw [wrapped]
    exact State.fieldStart_started (s := s) (u := s.lineStarting) (check := []) ⟨rfl, rfl, rfl, rfl, rfl, rfl⟩ rfl rfl rfl p .natural nofun between
  refine ⟨fieldStarted_of_view started ?_, ?_⟩
  · unfold State.lineTicked
    rw [State.carryTick_view, State.wrapEvent_eq, State.lineStart_view]
  · refine State.fieldStart_holdoverCounted (u := s.lineStarting) p .natural between rfl rfl rfl fun other => ?_
    rw [← wrapped] at other ⊢
    obtain ⟨engine, queue⟩ := State.lineTicked_other index ref between other
    refine ⟨?_, ?_, queue⟩
    · rw [engine, ← (State.wrapped_lockHalf (s := s) between).2.2.1]
      rfl
    · rw [State.lineTicked_timing]
      rfl

/-- A line start at which no field starts leaves the title half and posts what the look-up posts. -/
theorem State.lineTicked_none (natural : s.timing.naturalStart = none) :
    (s.lineTicked index ref between).fieldView = s.lineStarting.fieldView ∧
      (s.store.active = true → (s.lineTicked index ref between).reports.queues[(1 : Fin 4)] =
        (s.storeLookUp s.timing.naturalKey).1.reports.queues[(1 : Fin 4)]) := by
  have wrapped := s.wrapped_none between natural
  obtain ⟨-, -, -, -, -, -, -, -, -, -, -, queues⟩ := s.carryTick_keeps index ref (State.wrapEvent s.lineStamp between)
  constructor
  · unfold State.lineTicked
    rw [State.carryTick_view, State.wrapEvent_eq, State.lineStart_view, wrapped]
  · intro active
    have begun : s.lineStarting.timing.startLine.key = s.timing.naturalKey := (Timing.naturalKey_none natural).symm
    have read := State.storeRead_storeQueue (s.lineStarting.setTiming s.lineStarting.timing.startLine)
      s.lineStarting.timing.startLine.key active
    have looked : ((s.lineStarting.setTiming s.lineStarting.timing.startLine).storeLookUp s.timing.naturalKey).1.reports.queues =
        (s.storeLookUp s.timing.naturalKey).1.reports.queues := by
      rw [State.storeLookUp_queues, State.storeLookUp_queues]
      refine State.postAll_queues_congr (u := s.setStore (s.store.read s.timing.naturalKey).1) ?_ ?_
        (s.store.read s.timing.naturalKey).2.2 <;> rfl
    rw [← State.carried, State.wrapEvent_eq, State.lineStart_eq, wrapped] at queues
    refine (congrArg (fun q : Vector (List Report) 4 => q[(1 : Fin 4)]) queues).trans (read.trans ?_)
    rw [begun, looked]

end

/-- Settles O42: the state before the line start is that after the natural field start, if one falls there. -/
theorem lineStartFollowsNaturalSequence : Obligations.LineStartFollowsNaturalSequence := by
  intro s index ref between kind
  obtain ⟨notDue, wraps⟩ := State.tickKind_lineStart kind
  have running := State.running_of_tickKind kind nofun nofun
  obtain ⟨pixel, restart, pending, key⟩ := State.wrapped_timing between wraps
  obtain ⟨idle, active, history, ctx⟩ := State.wrapped_lockHalf (s := s) between
  have timing := State.lineTicked_timing (s := s) index ref between
  have clocked := s.wrapped_clocked between
  refine ⟨s.lineTicked index ref between, State.onTick_of kind _, ?_, ?_, ?_, ?_, ?_, fun calm => ?_, fun j jam more free => ?_,
    fun p natural => State.lineTicked_started index ref between natural, fun uncounted unlocked => ?_, fun natural => ?_⟩
  · exact State.carryTick_lineBegun index ref rfl clocked pixel history ctx
  · rw [timing]
    exact key
  · rw [timing]
    exact restart
  · refine (clocked.trans (Clocked.lineStart _ s.lineStamp)).clockKeeps index ref ?_
    rw [State.wrapEvent_eq, State.lineStart_timing_eq]
    exact pending.trans running
  · refine State.carryTick_lineRead index ref rfl clocked key idle fun ok on => ?_
    obtain ⟨store, engine⟩ := active ok on
    exact ⟨store, fun locked => by rw [engine]; exact ⟨locked, rfl⟩⟩
  · rw [timing]
    refine (State.wrapped_jam between (Or.inl calm)).trans ?_
    rw [calm]
    rfl
  · rw [timing]
    refine (State.wrapped_jam between (Or.inr free)).trans ?_
    rw [jam]
    exact if_neg (by omega)
  · have engine := State.wrapped_engine between uncounted
    rw [(State.lineTicked_other index ref between (by rw [engine]; exact unlocked)).1, engine]
    rfl
  · obtain ⟨view, queue⟩ := State.lineTicked_none index ref between natural
    unfold State.fieldView at view
    simp only [Prod.mk.injEq] at view
    obtain ⟨banks, fades, cues, link, ⟨keyer, next⟩, ⟨parity, count, load, sync⟩, -⟩ := view
    refine ⟨parity, count, load, sync.trans ?_, banks, fades, cues, keyer, next, link, queue⟩
    change countDown s.timing.fieldSync = _
    unfold countDown
    cases s.timing.fieldSync <;> rfl

end Sys2Proof.Machine

/-! The mid-line field start and the restart carry (R43, R55, R64, R91). -/

namespace Sys2Proof.Machine

/-! ## The natural field start at mid-line (R43) -/

/-- The tick of the mid-line field start. -/
def State.midTicked (s : State) (index : BitVec 4) (ref : Sample) (between : List Byte) : State :=
  s.carryTick index ref fun t => t.fieldStart .two .natural [] between

section
variable {s : State} (index : BitVec 4) (ref : Sample) (between : List Byte)

/-- The lock half, the timing and the LOCK queue of the tick are those of its field start. -/
theorem State.midTicked_keeps : let t := s.midTicked index ref between
    let v := s.carried.fieldStart .two .natural [] between
    t.engine = v.engine ∧ t.timing = v.timing ∧ t.store = v.store.sampleTick s.stamp ref ∧
      t.reports.queues[(0 : Fin 4)] = v.reports.queues[(0 : Fin 4)] ∧ fieldStarted s t .two between := by
  intro t v
  obtain ⟨-, -, -, engine, timing, store, -, -, -, -, -, queues⟩ :=
    s.carryTick_keeps index ref fun t => t.fieldStart .two .natural [] between
  have stamp : v.stamp = s.stamp := (Clocked.fieldStart s.carried .two .natural (check := []) nofun between).stamp
  refine ⟨engine, timing, ?_, congrArg (fun q : Vector (List Report) 4 => q[(0 : Fin 4)]) queues, ?_⟩
  · rw [← stamp]
    exact store
  · exact fieldStarted_of_view (State.fieldStart_started (s := s) (u := s.carried) (check := []) ⟨rfl, rfl, rfl, rfl, rfl, rfl⟩ rfl rfl
      rfl .two .natural nofun between) (s.carryTick_view index ref _)

end

theorem State.carried_counted {s v : State} (h : Counted s.carried v) : Counted s v := h.congr rfl rfl rfl rfl

theorem countDown_bind (n : Option Nat) : countDown n = n.bind fun n => if n ≤ 1 then none else some (n - 1) := by
  cases n <;> rfl

theorem Timing.midLine_pixel {t : Timing} (natural : t.naturalMidLine = true) : t.pixel + 1 = t.lpix / 2 := by
  unfold Timing.naturalMidLine Timing.reachesMidLine at natural
  simp only [Bool.and_eq_true, decide_eq_true_eq] at natural
  exact natural.1.1.1.2

/-- Settles O43: the tick is its field start and a pixel. -/
theorem midLineFieldStartKeepsLineKey : Obligations.MidLineFieldStartKeepsLineKey := by
  intro s index ref between kind
  obtain ⟨notDue, wraps, natural⟩ := State.tickKind_midLine kind
  have running := State.running_of_tickKind kind nofun nofun
  obtain ⟨engine, timing, store, queue, started⟩ := State.midTicked_keeps (s := s) index ref between
  have counted := State.carried_counted (s.carried.fieldStart_counted .two .natural [] between)
  have clocked := Clocked.fieldStart s.carried .two .natural (check := []) nofun between
  have timed := timing.trans (s.carried.fieldStart_timing .two .natural [] between)
  have mixer := s.carryTick_mixer_frame index ref fun t => t.fieldStart .two .natural [] between
  rw [State.fieldStart_mixer] at mixer
  refine ⟨s.midTicked index ref between, State.onTick_of kind _, started, ?_, ?_, ?_, fun free => ?_, fun holds last => ?_,
    fun other => ?_, fun ok slots => ?_, ?_, ?_, ?_, fun other => ?_⟩
  · rw [timed, Timing.startField_eq, State.carried_timing, wraps, running, countDown_bind]
    simp
  · rw [timed]
    change s.carried.timing.pixel = _
    rw [State.carried_timing, wraps]
    exact Timing.midLine_pixel natural
  · refine clocked.clockKeeps index ref ?_
    rw [State.fieldStart_timing]
    exact running
  · rw [timing]
    by_cases holds : s.engine.lock = .holdover
    · exact (counted.counts holds (free.resolve_left fun other => other holds)).2.2.2
    · exact (counted.other holds).2.2.2
  · rw [timing]
    exact (counted.frees holds last).2.2.2
  · rw [store, (counted.other other).2.1]
  · rw [store]
    by_cases on : s.store.active = true
    · rw [(counted.store_active ok on).1]
    · rw [(counted.store_idle ok.2.1 (by simpa using on)).2.2.2.2 slots]
  · rw [show (s.midTicked index ref between).mixer = _ from mixer]
    rfl
  · rw [engine]
    exact counted.history
  · refine State.fieldStart_holdoverCounted (u := s.carried) .two .natural between rfl rfl rfl fun _ => ⟨?_, ?_, queue⟩
    · rw [engine, ← counted.history]
    · rw [timing]
  · rw [engine]
    exact (counted.other other).1

/-! ## The restart carry (R64, R91) -/

/-- The state on which the field start of a restart carry comes. -/
def State.restarting (s : State) : State :=
  (s.carried.setMixer s.carried.mixer.discard).setTiming { s.carried.timing.beginLine with pixel := 0, restartPending := false }

/-- The state on which its line start comes. -/
def State.restartField (s : State) (between : List Byte) : State := s.restarting.fieldStart .one .restart [] between

theorem State.restartEvent_eq (s : State) (stamp : Stamp) (between : List Byte) :
    State.restartEvent stamp between s.carried = (s.restartField between).lineStart stamp := rfl

section
variable {s : State} (between : List Byte)

theorem State.restartField_clocked : Clocked s.carried (s.restartField between) := by
  have discarded : Clocked s.carried (s.carried.setMixer s.carried.mixer.discard) := .setMixer rfl
  have begun : Clocked s.carried s.restarting := discarded.trans (.setTiming rfl)
  exact begun.trans (Clocked.fieldStart _ .one .restart (List.forall_mem_nil _) between)

theorem State.restartField_timing : (s.restartField between).timing.pixel = 0 ∧
    (s.restartField between).timing.restartPending = false ∧
    (s.restartField between).timing.startLine.frameRestart = true ∧ (s.restartField between).timing.startLine.key = ⟨.one, 1⟩ := by
  unfold State.restartField
  rw [State.fieldStart_timing]
  exact ⟨rfl, rfl, rfl, rfl⟩

theorem State.restartField_started (p : State) (view : p.fieldView = (s.restartField between).fieldView) :
    fieldStarted s p .one between :=
  fieldStarted_of_view (State.fieldStart_started (s := s) (u := s.restarting) (check := []) ⟨rfl, rfl, rfl, rfl, rfl, rfl⟩ rfl rfl rfl
    .one .restart nofun between) view

end

theorem Mixer.clock_discarded {m : Mixer} (discarded : m.pipeline = []) (latency : Nat) (p : Pixel) (index : BitVec 4)
    (lineSync fieldSync : Bool) : let m' := (m.clock latency p index lineSync fieldSync).1
    m'.pipeline.length ≤ 1 ∧ (0 < latency → m'.output.pixel = Sample.black) := by
  intro m'
  by_cases delayed : 0 < latency
  · obtain ⟨black, pipeline, -⟩ := Mixer.clock_waits (m := m) (latency := latency) (p := p) (index := index) (lineSync := lineSync)
      (fieldSync := fieldSync) (by rw [discarded]; exact delayed)
    refine ⟨?_, fun _ => black⟩
    rw [show m'.pipeline = _ from pipeline, discarded]
    exact Nat.le_refl 1
  · have front : m.pipeline ++ [p] = p :: [] := by rw [discarded]; rfl
    have pipeline := (Mixer.clock_pairs (latency := latency) (index := index) (lineSync := lineSync) (fieldSync := fieldSync) front
      (by omega)).1
    refine ⟨?_, fun h => absurd h delayed⟩
    rw [show m'.pipeline = _ from pipeline]
    exact Nat.zero_le 1

/-- Settles O45: the tick is the field start of parity 1, line (1, 1) and the first pixel on an empty pipeline. -/
theorem restartCarryBeginsFrame : Obligations.RestartCarryBeginsFrame := by
  intro s index ref between kind
  have clocked := State.restartField_clocked (s := s) between
  have counted := (s.restarting.fieldStart_counted .one .restart [] between)
  obtain ⟨pixel, running, restart, key⟩ := State.restartField_timing (s := s) between
  obtain ⟨-, -, -, -, timing, -⟩ := s.carryTick_keeps index ref (State.restartEvent s.lineStamp between)
  rw [← State.carried, State.restartEvent_eq, State.lineStart_timing_eq] at timing
  have mixer : (s.restartField between).mixer = { s.mixer.discard with
      keyer := (s.restartField between).mixer.keyer, keyerNext := (s.restartField between).mixer.keyerNext
      recorded := (s.restartField between).mixer.recorded } := s.restarting.fieldStart_mixer .one .restart [] between
  have ctx : (s.restartField between).mixer.ctx = s.mixer.ctx := by
    rw [mixer]
    rfl
  refine ⟨s.carryTick index ref (State.restartEvent s.lineStamp between), State.onTick_of kind _, ?_, ?_, ?_, ?_, ?_, ?_, ?_, ?_⟩
  · refine State.restartField_started between _ ?_
    rw [State.carryTick_view, State.restartEvent_eq, State.lineStart_view]
  · refine (clocked.trans (Clocked.lineStart _ s.lineStamp)).clockKeeps index ref ?_
    rw [State.restartEvent_eq, State.lineStart_timing_eq]
    exact running
  · refine State.carryTick_lineRead index ref rfl clocked key (fun ok off => ?_) fun ok on => ?_
    · obtain ⟨off', lineOne, sampling, -, same⟩ := counted.store_idle ok.2.1 off
      exact ⟨off', lineOne, sampling, same⟩
    · obtain ⟨store, engine⟩ := counted.store_active ok on
      exact ⟨store, fun locked => by rw [show (s.restartField between).engine = _ from engine]; exact ⟨locked, rfl⟩⟩
  · exact State.carryTick_lineBegun index ref rfl clocked pixel counted.history ctx
  · rw [timing]
    exact key
  · rw [timing]
    exact restart
  · rw [timing]
    exact running
  · rw [State.carryTick_mixer, State.restartEvent_eq]
    have latency : ((s.restartField between).lineStart s.lineStamp).timing.latency = s.timing.latency := by
      have raster := (clocked.trans (Clocked.lineStart _ s.lineStamp)).raster
      simp only [Prod.mk.injEq] at raster
      exact raster.2.2.2
    have discarded : ((s.restartField between).lineStart s.lineStamp).mixer.pipeline = [] := by
      rw [State.lineStart_eq]
      change (s.restartField between).afterRead.mixer.pipeline.map _ = []
      rw [State.afterRead_mixer]
      change (s.restartField between).mixer.pipeline.map _ = []
      rw [mixer]
      rfl
    rw [← latency]
    exact Mixer.clock_discarded discarded _ _ index _ _

end Sys2Proof.Machine

/-! A completed jam check: the match, the entry to LOCKED and the jam (R51, R60, R61). -/

namespace Sys2Proof.Machine

/-! ## The result of the check in the lock half -/

section
variable (u : State) (p : Parity) (due : Key)

theorem State.checked_match (matches_ : due = ⟨p, 1⟩) :
    u.checked p due = ((u.setTiming { u.timing with jam := none }).setMatch true).testLocked := if_pos matches_

theorem State.checked_jam (mismatch : due ≠ ⟨p, 1⟩) :
    u.checked p due = ((u.setTiming { u.timing with jam := none }).setMatch false,
      [lockPostInt .jam p.code (jamShift u.timing.standard p due)]) := if_neg mismatch

theorem State.checked_timing : (u.checked p due).1.timing = { u.timing with jam := none } := by
  by_cases matches_ : due = ⟨p, 1⟩
  · rw [u.checked_match p due matches_]
    obtain h | ⟨h, -⟩ := ((u.setTiming { u.timing with jam := none }).setMatch true).testLocked_cases <;> rw [h]
    · rfl
    · unfold State.enterLocked
      rw [State.changeLock_timing]
      rfl
  · rw [u.checked_jam p due matches_]
    rfl

variable {u p due}

/-- A match in ACQUIRE with a full lock run enters LOCKED. -/
theorem State.checked_enters (matches_ : due = ⟨p, 1⟩) (acquire : u.engine.lock = .acquire) (full : u.engine.nLock ≤ u.engine.lockRun) :
    (u.checked p due).1.engine = { u.engine with
      vmatch := true, lock := .locked, unlocked := false, dropRun := 0, missRun := 0 } ∧
    (u.checked p due).1.store = u.store.handed .locked ∧
    (u.checked p due).2 = changePosts .acquire .locked false false := by
  have tested : ((u.setTiming { u.timing with jam := none }).setMatch true).testLocked =
      ((u.setTiming { u.timing with jam := none }).setMatch true).enterLocked := if_pos ⟨acquire, full, rfl⟩
  rw [u.checked_match p due matches_, tested]
  unfold State.enterLocked
  rw [State.changeLock_engine, State.changeLock_store, State.changeLock_changePosts]
  refine ⟨?_, rfl, ?_⟩
  · simp only [Bool.not_false, Bool.and_true]
    rfl
  · change changePosts u.engine.lock .locked false u.engine.atLimit = _
    rw [acquire]
    rfl

/-- Any other result sets vertical match alone. -/
theorem State.checked_stays (stays : due = ⟨p, 1⟩ → u.engine.lock = .acquire → ¬u.engine.nLock ≤ u.engine.lockRun) :
    (u.checked p due).1.engine = { u.engine with vmatch := decide (due = ⟨p, 1⟩) } ∧ (u.checked p due).1.store = u.store ∧
      (due = ⟨p, 1⟩ → (u.checked p due).2 = []) := by
  by_cases matches_ : due = ⟨p, 1⟩
  · have tested : ((u.setTiming { u.timing with jam := none }).setMatch true).testLocked =
        ((u.setTiming { u.timing with jam := none }).setMatch true, []) :=
      if_neg fun h => stays matches_ h.1 h.2.1
    rw [u.checked_match p due matches_, tested, decide_eq_true matches_]
    exact ⟨rfl, rfl, fun _ => rfl⟩
  · rw [u.checked_jam p due matches_, decide_eq_false matches_]
    exact ⟨rfl, rfl, fun h => absurd h matches_⟩

theorem State.checked_history : (u.checked p due).1.engine.history = u.engine.history := by
  by_cases enters : due = ⟨p, 1⟩ ∧ u.engine.lock = .acquire ∧ u.engine.nLock ≤ u.engine.lockRun
  · obtain ⟨matches_, acquire, full⟩ := enters
    rw [(State.checked_enters matches_ acquire full).1]
  · rw [(State.checked_stays fun m a f => enters ⟨m, a, f⟩).1]

/-- An active store, and an idle one behind a lock state that has none, see nothing of it. -/
theorem State.checked_store (ok : u.lockOk) : (u.checked p due).1.store = u.store := by
  by_cases enters : due = ⟨p, 1⟩ ∧ u.engine.lock = .acquire ∧ u.engine.nLock ≤ u.engine.lockRun
  · obtain ⟨matches_, acquire, full⟩ := enters
    rw [(State.checked_enters matches_ acquire full).2.1]
    exact Store.handed_kept _ rfl (ok.1.mpr (Or.inl acquire))
  · exact (State.checked_stays fun m a f => enters ⟨m, a, f⟩).2.1

end

/-! ## The field start of the check -/

section
variable {s u : State} (p : Parity) (due : Key) (between : List Byte)

theorem State.completeCheck_counted (u : State) : Counted (u.checked p due).1 (u.completeCheck p due between) := by
  rw [State.completeCheck_eq]
  exact State.fieldStart_counted ..

theorem State.completeCheck_timing (u : State) : (u.completeCheck p due between).timing =
    { u.timing.startField p (if due = ⟨p, 1⟩ then .natural else .jam) with jam := none } := by
  have jam := (u.completeCheck_counted p due between).jam_none (congrArg Timing.jam (u.checked_timing p due))
  rw [State.completeCheck_eq] at jam ⊢
  rw [State.fieldStart_timing, jam, State.checked_timing]
  rfl

theorem State.completeCheck_mixer (u : State) : let t := u.completeCheck p due between
    t.mixer = { u.mixer with keyer := t.mixer.keyer, keyerNext := t.mixer.keyerNext, recorded := t.mixer.recorded } := by
  intro t
  have frame := (u.checked p due).1.fieldStart_mixer p (if due = ⟨p, 1⟩ then .natural else .jam) (u.checked p due).2 between
  dsimp only at frame
  rw [← State.completeCheck_eq] at frame
  have mixer := (LockEvent.checked u p due).half.1.2.2.1
  rw [mixer] at frame
  exact frame

theorem State.completeCheck_started (title : SameTitle s u) (count : u.timing.count = s.timing.count)
    (load : u.timing.load = s.timing.load) (queue : u.reports.queues[(2 : Fin 4)] = s.reports.queues[(2 : Fin 4)]) :
    fieldStarted s (u.completeCheck p due between) p between := by
  have event := LockEvent.checked u p due
  rw [State.completeCheck_eq]
  refine State.fieldStart_started (title.trans event.sameTitle) ?_ ?_ (event.queue.trans queue) p _ (u.checked_posts_queue p due)
    between
  · rw [State.checked_timing]
    exact count
  · rw [State.checked_timing]
    exact load

/-- A check neither enters nor leaves HOLDOVER. -/
theorem State.checked_notHoldover (other : u.engine.lock ≠ .holdover) : (u.checked p due).1.engine.lock ≠ .holdover := by
  by_cases enters : due = ⟨p, 1⟩ ∧ u.engine.lock = .acquire ∧ u.engine.nLock ≤ u.engine.lockRun
  · obtain ⟨matches_, acquire, full⟩ := enters
    rw [(State.checked_enters matches_ acquire full).1]
    exact nofun
  · rw [(State.checked_stays fun m a f => enters ⟨m, a, f⟩).1]
    exact other

/-- The lock half after the field start of a check, out of HOLDOVER. -/
theorem State.completeCheck_engine (other : u.engine.lock ≠ .holdover) :
    (u.completeCheck p due between).engine = (u.checked p due).1.engine ∧
      (u.completeCheck p due between).store = (u.checked p due).1.store := by
  have out := (u.completeCheck_counted p due between).other (State.checked_notHoldover p due other)
  exact ⟨out.1, out.2.1⟩

theorem State.completeCheck_history (u : State) : (u.completeCheck p due between).engine.history = u.engine.history :=
  (u.completeCheck_counted p due between).history.trans State.checked_history

/-- The store after the field start of a check is that before it, but for an idle one that is not in order. -/
theorem State.completeCheck_store (ok : u.lockOk) :
    (u.store.active = false → (u.completeCheck p due between).store.active = false ∧
      (u.completeCheck p due between).store.lineOne = u.store.lineOne ∧
      (u.completeCheck p due between).store.sampling = none ∧ (u.completeCheck p due between).store.shown = none ∧
      (u.store.slotsOk → (u.completeCheck p due between).store = u.store)) ∧
    (u.store.active = true → (u.completeCheck p due between).store = u.store) := by
  have counted := u.completeCheck_counted p due between
  have checked := State.checked_store (p := p) (due := due) ok
  refine ⟨fun off => ?_, fun on => ?_⟩
  · have idle := counted.store_idle (by rw [checked]; exact ok.2.1) (by rw [checked]; exact off)
    rw [checked] at idle
    exact idle
  · have other : u.engine.lock ≠ .holdover := by
      obtain lock | lock := ok.1.mp on <;> rw [lock] <;> exact nofun
    rw [(State.completeCheck_engine p due between other).2, checked]

theorem State.checked_reports (u : State) : (u.checked p due).1.reports = u.reports := by
  by_cases matches_ : due = ⟨p, 1⟩
  · rw [u.checked_match p due matches_]
    obtain h | ⟨h, -⟩ := ((u.setTiming { u.timing with jam := none }).setMatch true).testLocked_cases <;> rw [h]
    · rfl
    · exact State.changeLock_reports ..
  · rw [u.checked_jam p due matches_]
    rfl

/-- The reports of a check out of HOLDOVER, with no cue armed. -/
theorem State.completeCheck_posts (other : u.engine.lock ≠ .holdover) (unarmed : u.cues.armed = [])
    (room : (u.reports.queues[(0 : Fin 4)]).length + (u.checked p due).2.length ≤ 24) :
    let t := u.completeCheck p due between
    ∃ count, (count = u.timing.count ∨ count = t.timing.count) ∧
      t.reports.queues[(0 : Fin 4)] = u.reports.queues[(0 : Fin 4)] ++ recordsOf count (u.checked p due).2 := by
  have posted := State.fieldStart_checkPosts (u := (u.checked p due).1)
    (by rw [(LockEvent.checked u p due).sameTitle.cues]; exact unarmed) (State.checked_notHoldover p due other) p
    (if due = ⟨p, 1⟩ then .natural else .jam) (u.checked_posts_queue p due) between
  rw [← State.completeCheck_eq, State.checked_reports, State.checked_timing] at posted
  exact posted room

/-- A jam leaves vertical match false in every lock state. -/
theorem State.completeCheck_vmatch (mismatch : due ≠ ⟨p, 1⟩) : (u.completeCheck p due between).engine.vmatch = false := by
  have counted := u.completeCheck_counted p due between
  have engine : (u.checked p due).1.engine.vmatch = false := by
    rw [u.checked_jam p due mismatch]
    rfl
  by_cases holds : (u.checked p due).1.engine.lock = .holdover
  · by_cases last : (u.checked p due).1.engine.holdover ≤ 1
    · rw [(counted.frees holds last).1]
      exact engine
    · rw [(counted.counts holds (by omega)).1]
      exact engine
  · rw [(counted.other holds).1]
    exact engine

end

end Sys2Proof.Machine

/-! The jam check at its carry (R51, R60, R61; log 34). -/

namespace Sys2Proof.Machine

/-! ## What the read of a line leaves of the engine (R53) -/

section
variable {s : State} (k : Key)

/-- The read of a line that is not the second miss in a row moves the miss run at most, and posts nothing in the LOCK queue. -/
theorem State.storeRead_runs (quiet : s.engine.lock ≠ .locked ∨ s.engine.missRun = 0) :
    (s.storeRead k).engine = { s.engine with missRun := (s.storeRead k).engine.missRun } ∧
      (s.storeRead k).reports.queues[(0 : Fin 4)] = s.reports.queues[(0 : Fin 4)] := by
  by_cases locked : s.engine.lock = .locked
  · have none := quiet.resolve_left fun h => h locked
    by_cases active : s.store.active = true
    · have looked : ∀ l, (s.lookedUp k l).reports.queues[(0 : Fin 4)] = s.reports.queues[(0 : Fin 4)] := fun l => by
        rw [State.lookedUp_queues, State.storeLookUp_queues, State.postAll_queue_ne]
        · rfl
        · intro p hp
          rw [Store.read_posts _ _ p hp]
          exact nofun
      by_cases first : k.line = 1
      · have read := State.storeRead_lineOne active k first
        have counted := State.storeRead_counted k active locked first (Or.inr none)
        refine ⟨by rw [counted], ?_⟩
        have lock : ∀ l, (s.lookedUp k l).engine.lock = .locked := fun l => by rw [State.lookedUp_engine, locked]
        have run : ∀ l, (s.lookedUp k l).engine.missRun = 0 := fun l => by rw [State.lookedUp_engine, none]
        cases hit : (s.store.read k).2.1 with
        | true =>
          simp only [hit, if_true] at read
          rw [read, State.takeLineOne_hit (lock _), State.postAll_nil]
          exact looked (some .hit)
        | false =>
          simp only [hit, Bool.false_eq_true, if_false] at read
          rw [read, State.takeLineOne_firstMiss (lock _) (run _), State.postAll_nil]
          exact looked (some .miss)
      · rw [State.storeRead_later_engine k first, State.storeRead_later active k first]
        exact ⟨rfl, looked _⟩
    · rw [State.storeRead_idle (by simpa using active)]
      exact ⟨rfl, rfl⟩
  · obtain ⟨engine, -, queue⟩ := State.storeRead_other k locked
    exact ⟨by rw [engine], queue⟩

/-- Where lock is not dropped the read moves the miss run at most. -/
theorem State.storeRead_stays (locked : (s.storeRead k).engine.lock = .locked) :
    (s.storeRead k).engine = { s.engine with missRun := (s.storeRead k).engine.missRun } := by
  by_cases quiet : s.engine.lock ≠ .locked ∨ s.engine.missRun = 0
  · exact (State.storeRead_runs k quiet).1
  · obtain ⟨lock, run⟩ := not_or.mp quiet
    by_cases active : s.store.active = true
    · by_cases first : k.line = 1
      · by_cases hit : (s.storeLookUp k).2 = true
        · rw [State.storeRead_counted k active (not_not.mp lock) first (Or.inl hit)]
        · have dropped := (State.storeRead_dropped k active (not_not.mp lock) first (by simpa using hit) (by omega)).1
          rw [dropped] at locked
          nomatch locked
      · rw [State.storeRead_later_engine k first]
    · rw [State.storeRead_idle (by simpa using active)]
      rfl

/-- A read never sets vertical match. -/
theorem State.storeRead_vmatch (unmatched : s.engine.vmatch = false) : (s.storeRead k).engine.vmatch = false := by
  by_cases quiet : s.engine.lock ≠ .locked ∨ s.engine.missRun = 0
  · rw [(State.storeRead_runs k quiet).1]
    exact unmatched
  · obtain ⟨lock, run⟩ := not_or.mp quiet
    by_cases active : s.store.active = true
    · by_cases first : k.line = 1
      · by_cases hit : (s.storeLookUp k).2 = true
        · rw [State.storeRead_counted k active (not_not.mp lock) first (Or.inl hit)]
          exact unmatched
        · exact (State.storeRead_dropped k active (not_not.mp lock) first (by simpa using hit) (by omega)).2.2.2.2
      · rw [State.storeRead_later_engine k first]
        exact unmatched
    · rw [State.storeRead_idle (by simpa using active)]
      exact unmatched

end

/-! ## The tick behind its event -/

section
variable {s v : State} {event : State → State} (index : BitVec 4) (ref : Sample)

/-- A carry whose event is known: the tick leaves the event's lock half, but for the sample. -/
theorem State.carryTick_made (made : event s.carried = v) (clocked : Clocked s.carried v) :
    let t := s.carryTick index ref event
    t.engine = v.engine ∧ t.timing = v.timing ∧ t.store = v.store.sampleTick s.stamp ref ∧
      t.reports.queues[(0 : Fin 4)] = v.reports.queues[(0 : Fin 4)] ∧ t.fieldView = v.fieldView := by
  intro t
  obtain ⟨-, -, -, engine, timing, store, -, -, -, -, -, queues⟩ := s.carryTick_keeps index ref event
  have view := s.carryTick_view index ref event
  rw [← State.carried, made] at engine timing store queues
  rw [made] at view
  have stamp : v.stamp = s.stamp := clocked.stamp
  rw [stamp] at store
  exact ⟨engine, timing, store, congrArg (fun q : Vector (List Report) 4 => q[(0 : Fin 4)]) queues, view⟩

/-- A carry at which a line starts. -/
theorem State.carryTick_line (made : event s.carried = v.lineStart s.lineStamp) (clocked : Clocked s.carried v) :
    let t := s.carryTick index ref event
    let read := (v.setTiming v.timing.startLine).storeRead v.timing.startLine.key
    t.engine = read.engine.record s.lineStamp ∧ t.timing = v.timing.startLine ∧
      t.reports.queues[(0 : Fin 4)] = read.reports.queues[(0 : Fin 4)] ∧ t.fieldView = v.fieldView := by
  intro t read
  obtain ⟨engine, timing, -, queue, view⟩ :=
    State.carryTick_made index ref made (clocked.trans (Clocked.lineStart v s.lineStamp))
  rw [State.lineStart_timing_eq] at timing
  rw [State.lineStart_view] at view
  rw [State.lineStart_eq, State.setEngine_engine] at engine
  exact ⟨engine, timing, queue, view⟩

end

/-! ## The result of a check in the state after its carry -/

section
variable {s u t : State} {p : Parity} {due : Key} {between : List Byte}

/-- What a check's carry leaves of its field start: the engine but for the miss run and the history, the LOCK queue, the count. -/
structure CheckTaken (s u t : State) (p : Parity) (due : Key) (between : List Byte) : Prop where
  before : u.engine = s.engine ∧ u.cues = s.cues ∧ u.reports.queues[(0 : Fin 4)] = s.reports.queues[(0 : Fin 4)] ∧
    u.timing.count = s.timing.count ∧ u.timing.standard = s.timing.standard
  engine : t.engine = { (u.completeCheck p due between).engine with
    missRun := t.engine.missRun, history := t.engine.history }
  queue : t.reports.queues[(0 : Fin 4)] = (u.completeCheck p due between).reports.queues[(0 : Fin 4)]
  count : t.timing.count = (u.completeCheck p due between).timing.count

variable (h : CheckTaken s u t p due between)
include h

theorem CheckTaken.posts (other : s.engine.lock ≠ .holdover) (unarmed : s.cues.armed = [])
    (room : (s.reports.queues[(0 : Fin 4)]).length + (u.checked p due).2.length ≤ 24) :
    ∃ count, (count = s.timing.count ∨ count = t.timing.count) ∧
      t.reports.queues[(0 : Fin 4)] = s.reports.queues[(0 : Fin 4)] ++ recordsOf count (u.checked p due).2 := by
  obtain ⟨engine, cues, queue, count, -⟩ := h.before
  have posted := State.completeCheck_posts (u := u) p due between (by rw [engine]; exact other) (by rw [cues]; exact unarmed)
    (by rw [queue]; exact room)
  dsimp only at posted
  rw [count, queue, ← h.queue, ← h.count] at posted
  exact posted

/-- A match in ACQUIRE: the entry to LOCKED with a full lock run, and no report else. -/
theorem CheckTaken.matched (matches_ : due = ⟨p, 1⟩) (acquire : s.engine.lock = .acquire) :
    t.engine.vmatch = true ∧ t.engine.lock = (if s.engine.nLock ≤ s.engine.lockRun then .locked else .acquire) ∧
    (∀ run, t.engine.missRun = (if s.engine.nLock ≤ s.engine.lockRun then run else s.engine.missRun) → t.engine =
      if s.engine.nLock ≤ s.engine.lockRun then { s.engine with
        vmatch := true, lock := .locked, unlocked := false, dropRun := 0, history := t.engine.history, missRun := run }
      else { s.engine with vmatch := true, history := t.engine.history }) ∧
    (s.cues.armed = [] → (s.reports.queues[(0 : Fin 4)]).length < 24 →
      ∃ count, (count = s.timing.count ∨ count = t.timing.count) ∧
        t.reports.queues[(0 : Fin 4)] = s.reports.queues[(0 : Fin 4)] ++
          recordsOf count (changePosts .acquire t.engine.lock false false)) := by
  obtain ⟨before, -⟩ := h.before
  have other : u.engine.lock ≠ .holdover := by rw [before, acquire]; exact nofun
  have engine := h.engine
  rw [(State.completeCheck_engine p due between other).1] at engine
  by_cases full : s.engine.nLock ≤ s.engine.lockRun
  · obtain ⟨entered, -, posts⟩ := State.checked_enters (u := u) matches_ (by rw [before]; exact acquire) (by rw [before]; exact full)
    rw [entered, before] at engine
    have lock : t.engine.lock = .locked := congrArg Engine.lock engine
    simp only [if_pos full]
    refine ⟨congrArg Engine.vmatch engine, lock, fun run counts => ?_, fun unarmed room => ?_⟩
    · rw [← counts]
      exact engine
    · have posted := h.posts (by rw [acquire]; exact nofun) unarmed (by rw [posts]; exact room)
      rw [posts, ← lock] at posted
      exact posted
  · obtain ⟨stood, -, posts⟩ := State.checked_stays (u := u) (p := p) (due := due) (by rw [before]; exact fun _ _ => full)
    rw [stood, decide_eq_true matches_, before] at engine
    have lock : t.engine.lock = .acquire := (congrArg Engine.lock engine).trans acquire
    simp only [if_neg full]
    refine ⟨congrArg Engine.vmatch engine, lock, fun run counts => ?_, fun unarmed room => ?_⟩
    · rw [counts] at engine
      exact engine
    · have posted := h.posts (by rw [acquire]; exact nofun) unarmed (by rw [posts matches_]; exact Nat.le_of_lt room)
      rw [posts matches_] at posted
      rw [lock]
      exact posted

/-- A mismatch in ACQUIRE: vertical match is lost, and JAM posted with its shift. -/
theorem CheckTaken.jammed (mismatch : due ≠ ⟨p, 1⟩) (acquire : s.engine.lock = .acquire) :
    (t.engine.missRun = s.engine.missRun → t.engine = { s.engine with vmatch := false, history := t.engine.history }) ∧
    (s.cues.armed = [] → (s.reports.queues[(0 : Fin 4)]).length < 24 →
      ∃ count, (count = s.timing.count ∨ count = t.timing.count) ∧
        t.reports.queues[(0 : Fin 4)] = s.reports.queues[(0 : Fin 4)] ++
          [⟨.jam, count, BitVec.ofNat 8 p.code, BitVec.ofInt 16 (jamShift s.timing.standard p due)⟩]) := by
  obtain ⟨before, -, -, -, standard⟩ := h.before
  have other : u.engine.lock ≠ .holdover := by rw [before, acquire]; exact nofun
  have engine := h.engine
  have posts : (u.checked p due).2 = [lockPostInt .jam p.code (jamShift s.timing.standard p due)] := by
    rw [u.checked_jam p due mismatch, standard]
  rw [(State.completeCheck_engine p due between other).1, (State.checked_stays fun h => absurd h mismatch).1,
    decide_eq_false mismatch, before] at engine
  refine ⟨fun counts => ?_, fun unarmed room => ?_⟩
  · rw [counts] at engine
    exact engine
  · have posted := h.posts (by rw [acquire]; exact nofun) unarmed (by rw [posts]; exact room)
    rw [posts] at posted
    exact posted

end

end Sys2Proof.Machine

namespace Sys2Proof.Machine

/-! ## The shift of a jam (R61) -/

theorem lineIndex_eq (std : Standard) {k : Key} (counts : 1 ≤ k.line) : (lineIndex std k : Int) =
    (k.line : Int) - 1 + if k.parity = .two then (fieldLength std .one : Int) else 0 := by
  obtain ⟨parity, line⟩ := k
  cases parity with
  | one =>
    change ((line - 1 : Nat) : Int) = _
    rw [if_neg nofun]
    dsimp only at counts ⊢
    omega
  | two =>
    change ((line - 1 + fieldLength std .one : Nat) : Int) = _
    rw [if_pos rfl]
    dsimp only at counts ⊢
    omega

/-- A number folded into half a frame. -/
theorem folded_mod (x frame : Int) : ((if x % frame ≤ frame / 2 then x % frame else x % frame - frame) - x) % frame = 0 := by
  have whole := Int.emod_add_mul_ediv x frame
  split
  · exact Int.emod_eq_zero_of_dvd ⟨-(x / frame), by rw [Int.mul_neg]; omega⟩
  · exact Int.emod_eq_zero_of_dvd ⟨-(x / frame) - 1, by rw [Int.mul_sub, Int.mul_neg]; omega⟩

theorem folded_range {x frame : Int} (pos : 0 < frame) (odd : frame % 2 = 1) :
    let n := if x % frame ≤ frame / 2 then x % frame else x % frame - frame
    n ≤ frame / 2 ∧ -(frame / 2) ≤ n := by
  have low := Int.emod_nonneg x (Int.ne_of_gt pos)
  have high := Int.emod_lt_of_pos x pos
  dsimp only
  split <;> omega

theorem jamShift_folded (std : Standard) (p : Parity) (due : Key) :
    let x : Int := (lineIndex std ⟨p, 1⟩ : Int) - lineIndex std due
    let frame : Int := frameLength std
    jamShift std p due = if x % frame ≤ frame / 2 then x % frame else x % frame - frame := by
  cases std <;> rfl

/-! ## The carry at which a check completes -/

theorem Timing.jamDue_some {t : Timing} {j : Jam} (due : t.jamDue = some j) :
    (if j.parity = .two ∧ t.mode = .interlaced then t.reachesMidLine else t.wraps) = true := by
  unfold Timing.jamDue at due
  cases jam : t.jam with
  | none => simp only [jam, reduceCtorEq] at due
  | some k =>
    by_cases ready : k.toCome = 1 ∧ (if k.parity = .two ∧ t.mode = .interlaced then t.reachesMidLine else t.wraps) = true
    · simp only [jam, if_pos ready, Option.some.injEq] at due
      exact due ▸ ready.2
    · simp only [jam, if_neg ready, reduceCtorEq] at due

/-- The pixel counter that reaches mid-line does not wrap. -/
theorem Timing.wraps_midLine {t : Timing} (mid : t.reachesMidLine = true) : t.wraps = false := by
  unfold Timing.reachesMidLine at mid
  simp only [Bool.and_eq_true, decide_eq_true_eq] at mid
  exact decide_eq_false (by omega)

/-- Whether the check of a jam completes at mid-line. -/
def State.jamMid (s : State) (j : Jam) : Bool := decide (j.parity = .two ∧ s.timing.mode = .interlaced)

/-- The state on which the check comes. -/
def State.jamBegun (s : State) (j : Jam) : State := if s.jamMid j then s.carried else s.lineStarting

/-- The state after the field start of the check. -/
def State.jamStarted (s : State) (j : Jam) (between : List Byte) : State :=
  (s.jamBegun j).completeCheck j.parity s.timing.naturalKey between

/-- The tick of a completed check. -/
def State.jamTicked (s : State) (j : Jam) (index : BitVec 4) (ref : Sample) (between : List Byte) : State :=
  s.carryTick index ref (State.jamEvent j.parity (s.jamMid j) s.timing.naturalKey s.lineStamp between)

section
variable {s : State} {j : Jam} (index : BitVec 4) (ref : Sample) (between : List Byte)

theorem State.exec_jamCheckComplete (kind : s.tickKind = .jamCheck) (due : s.timing.jamDue = some j) :
    exec (.jamCheckComplete index ⟨ref, between⟩) s = .next (s.jamTicked j index ref between) := by
  change execJamCheckComplete index ⟨ref, between⟩ s = _
  unfold execJamCheckComplete
  rw [due]
  exact State.onTick_of kind _

theorem State.jamEvent_mid (mid : s.jamMid j = true) :
    State.jamEvent j.parity (s.jamMid j) s.timing.naturalKey s.lineStamp between s.carried = s.jamStarted j between := by
  unfold State.jamEvent State.jamStarted State.jamBegun
  rw [if_pos mid, if_pos mid]

theorem State.jamEvent_line (line : ¬s.jamMid j = true) :
    State.jamEvent j.parity (s.jamMid j) s.timing.naturalKey s.lineStamp between s.carried =
      (s.jamStarted j between).lineStart s.lineStamp := by
  unfold State.jamEvent State.jamStarted State.jamBegun
  rw [if_neg line, if_neg line]
  rfl

theorem State.jamBegun_clocked : Clocked s.carried (s.jamBegun j) := by
  unfold State.jamBegun
  split
  · exact .refl _
  · exact .beginLine _

theorem State.jamStarted_clocked : Clocked s.carried (s.jamStarted j between) :=
  State.jamBegun_clocked.trans (.completeCheck _ _ _ between)

/-- The check comes on the lock half and the title half of `s`. -/
theorem State.jamBegun_same : SameTitle s (s.jamBegun j) ∧ (s.jamBegun j).engine = s.engine ∧ (s.jamBegun j).store = s.store ∧
    (s.jamBegun j).mixer = s.mixer ∧ (s.jamBegun j).reports = s.reports ∧
    (s.jamBegun j).timing.count = s.timing.count ∧ (s.jamBegun j).timing.load = s.timing.load ∧
    (s.jamBegun j).timing.standard = s.timing.standard ∧ (s.jamBegun j).timing.restartPending = s.timing.restartPending ∧
    (s.jamBegun j).timing.key = s.timing.key := by
  unfold State.jamBegun
  split <;> exact ⟨⟨rfl, rfl, rfl, rfl, rfl, rfl⟩, rfl, rfl, rfl, rfl, rfl, rfl, rfl, rfl, rfl⟩

theorem State.jamBegun_lockOk (ok : s.lockOk) : (s.jamBegun j).lockOk := by
  unfold State.jamBegun
  split <;> exact ok

theorem State.jamStarted_timing : (s.jamStarted j between).timing = { (s.jamBegun j).timing.startField j.parity
    (if s.timing.naturalKey = ⟨j.parity, 1⟩ then .natural else .jam) with jam := none } :=
  State.completeCheck_timing _ _ between (s.jamBegun j)

theorem State.jamStarted_key : (s.jamStarted j between).timing.startLine.key = ⟨j.parity, 1⟩ := by
  rw [State.jamStarted_timing]
  rfl

theorem State.jamBegun_pixel (due : s.timing.jamDue = some j) :
    (s.jamBegun j).timing.pixel = if s.jamMid j then s.timing.pixel + 1 else 0 := by
  have ready := Timing.jamDue_some due
  unfold State.jamBegun
  by_cases mid : s.jamMid j = true
  · rw [if_pos (of_decide_eq_true mid)] at ready
    rw [if_pos mid, if_pos mid, State.carried_timing, Timing.wraps_midLine ready]
    rfl
  · rw [if_neg fun h => mid (decide_eq_true h)] at ready
    rw [if_neg mid, if_neg mid]
    exact if_pos ready

/-- Of the engine the carry of a check leaves that of its field start, but for the read of a line. -/
theorem State.jamTicked_engine : let t := s.jamTicked j index ref between
    let v := s.jamStarted j between
    (s.jamMid j = true → t.engine = v.engine ∧ t.timing = v.timing ∧ t.store = v.store.sampleTick s.stamp ref ∧
      t.reports.queues[(0 : Fin 4)] = v.reports.queues[(0 : Fin 4)] ∧ t.fieldView = v.fieldView) ∧
    (¬s.jamMid j = true →
      let read := (v.setTiming v.timing.startLine).storeRead ⟨j.parity, 1⟩
      t.engine = read.engine.record s.lineStamp ∧ t.timing = v.timing.startLine ∧
      t.reports.queues[(0 : Fin 4)] = read.reports.queues[(0 : Fin 4)] ∧ t.fieldView = v.fieldView) := by
  intro t v
  refine ⟨fun mid => ?_, fun line => ?_⟩
  · exact State.carryTick_made index ref (State.jamEvent_mid between mid) (State.jamStarted_clocked between)
  · have ticked := State.carryTick_line index ref (State.jamEvent_line between line) (State.jamStarted_clocked between)
    dsimp only at ticked
    rw [State.jamStarted_key] at ticked
    exact ticked

end

end Sys2Proof.Machine

namespace Sys2Proof.Machine

/-! ## A completed check in every unit (R51, R60, R61; log 34) -/

section
variable {s : State} {j : Jam} (index : BitVec 4) (ref : Sample) (between : List Byte)

theorem State.jamTicked_started : fieldStarted s (s.jamTicked j index ref between) j.parity between := by
  obtain ⟨title, -, -, -, reports, count, load, -⟩ := State.jamBegun_same (s := s) (j := j)
  obtain ⟨mid, line⟩ := State.jamTicked_engine (s := s) (j := j) index ref between
  have started : fieldStarted s (s.jamStarted j between) j.parity between :=
    State.completeCheck_started j.parity s.timing.naturalKey between title count load (by rw [reports])
  by_cases h : s.jamMid j = true
  · exact fieldStarted_of_view started (mid h).2.2.2.2
  · exact fieldStarted_of_view started (line h).2.2.2

theorem State.jamTicked_timing : (s.jamTicked j index ref between).timing =
    if s.jamMid j then (s.jamStarted j between).timing else (s.jamStarted j between).timing.startLine := by
  obtain ⟨mid, line⟩ := State.jamTicked_engine (s := s) (j := j) index ref between
  by_cases h : s.jamMid j = true
  · rw [if_pos h]
    exact (mid h).2.1
  · rw [if_neg h]
    exact (line h).2.1

theorem State.jamTicked_jam : (s.jamTicked j index ref between).timing.jam = none ∧
    (s.timing.naturalKey ≠ ⟨j.parity, 1⟩ → (s.jamTicked j index ref between).timing.frameRestart = true) := by
  have started := State.jamStarted_timing (s := s) (j := j) between
  have restarts (mismatch : s.timing.naturalKey ≠ ⟨j.parity, 1⟩) : (s.jamStarted j between).timing.frameRestart = true := by
    rw [started, if_neg mismatch]
    exact Bool.or_true _
  have jam : (s.jamStarted j between).timing.jam = none := by rw [started]
  rw [State.jamTicked_timing]
  split
  · exact ⟨jam, restarts⟩
  · exact ⟨jam, restarts⟩

theorem State.jamTicked_clockKeeps (running : s.timing.restartPending = false) :
    clockKeeps s (s.jamTicked j index ref between) := by
  have started : (s.jamStarted j between).timing.restartPending = false := by
    rw [State.jamStarted_timing]
    exact State.jamBegun_same.2.2.2.2.2.2.2.2.1.trans running
  refine (Clocked.jamEvent s.carried j.parity (s.jamMid j) s.timing.naturalKey s.lineStamp between).clockKeeps index ref ?_
  by_cases h : s.jamMid j = true
  · rw [State.jamEvent_mid between h]
    exact started
  · rw [State.jamEvent_line between h, State.lineStart_timing_eq]
    exact started

/-- In ACQUIRE the carry of a check leaves the engine of its field start but for the miss run and the history. -/
theorem State.jamTicked_taken (acquire : s.engine.lock = .acquire) :
    CheckTaken s (s.jamBegun j) (s.jamTicked j index ref between) j.parity s.timing.naturalKey between := by
  obtain ⟨title, engine, -, -, reports, count, -, standard, -⟩ := State.jamBegun_same (s := s) (j := j)
  obtain ⟨mid, line⟩ := State.jamTicked_engine (s := s) (j := j) index ref between
  have counted : (s.jamTicked j index ref between).timing.count = (s.jamStarted j between).timing.count := by
    rw [State.jamTicked_timing]
    split <;> rfl
  by_cases h : s.jamMid j = true
  · obtain ⟨engine', -, -, queue, -⟩ := mid h
    exact ⟨⟨engine, title.cues, by rw [reports], count, standard⟩, by rw [engine']; rfl, queue, counted⟩
  · obtain ⟨engine', -, queue, -⟩ := line h
    have other : (s.jamBegun j).engine.lock ≠ .holdover := by rw [engine, acquire]; exact nofun
    have quiet : (s.jamStarted j between).engine.lock ≠ .locked ∨ (s.jamStarted j between).engine.missRun = 0 := by
      rw [State.jamStarted, (State.completeCheck_engine _ _ between other).1]
      by_cases enters : s.timing.naturalKey = ⟨j.parity, 1⟩ ∧ (s.jamBegun j).engine.nLock ≤ (s.jamBegun j).engine.lockRun
      · rw [(State.checked_enters enters.1 (by rw [engine]; exact acquire) enters.2).1]
        exact Or.inr rfl
      · rw [(State.checked_stays fun m _ f => enters ⟨m, f⟩).1, engine, acquire]
        exact Or.inl nofun
    obtain ⟨runs, posts⟩ := State.storeRead_runs
      (s := (s.jamStarted j between).setTiming (s.jamStarted j between).timing.startLine) ⟨j.parity, 1⟩ quiet
    refine ⟨⟨engine, title.cues, by rw [reports], count, standard⟩, ?_, queue.trans posts, counted⟩
    rw [engine', runs]
    rfl

/-- The miss run behind a check in ACQUIRE: 0 at the entry to LOCKED, with the line-1 result of the line that starts there. -/
theorem State.jamTicked_missRun (acquire : s.engine.lock = .acquire) :
    (¬(s.timing.naturalKey = ⟨j.parity, 1⟩ ∧ s.engine.nLock ≤ s.engine.lockRun) →
      (s.jamTicked j index ref between).engine.missRun = s.engine.missRun) ∧
    (s.lockOk → s.timing.naturalKey = ⟨j.parity, 1⟩ → s.engine.nLock ≤ s.engine.lockRun →
      (s.jamTicked j index ref between).engine.missRun =
        if s.jamMid j then 0 else if (s.storeLookUp ⟨j.parity, 1⟩).2 = true then 0 else 1) := by
  obtain ⟨-, engine, store, -⟩ := State.jamBegun_same (s := s) (j := j)
  obtain ⟨mid, line⟩ := State.jamTicked_engine (s := s) (j := j) index ref between
  have other : (s.jamBegun j).engine.lock ≠ .holdover := by rw [engine, acquire]; exact nofun
  obtain ⟨started, -⟩ := State.completeCheck_engine j.parity s.timing.naturalKey between other
  refine ⟨fun stays => ?_, fun ok matches_ full => ?_⟩
  · rw [(State.checked_stays fun m _ f => stays ⟨m, by rw [← engine]; exact f⟩).1, engine] at started
    have lock : (s.jamStarted j between).engine.lock ≠ .locked := by
      rw [State.jamStarted, started, acquire]
      exact nofun
    by_cases h : s.jamMid j = true
    · rw [(mid h).1, State.jamStarted, started]
    · have read := (State.storeRead_other
        (s := (s.jamStarted j between).setTiming (s.jamStarted j between).timing.startLine) ⟨j.parity, 1⟩ lock).1
      rw [(line h).1, read, State.setTiming_engine, State.jamStarted, started]
      rfl
  · have entered := (State.checked_enters (u := s.jamBegun j) matches_ (by rw [engine]; exact acquire)
      (by rw [engine]; exact full)).1
    rw [entered] at started
    have on : s.store.active = true := ok.1.mpr (Or.inl acquire)
    have kept : (s.jamStarted j between).store = s.store :=
      ((State.completeCheck_store _ _ between (State.jamBegun_lockOk ok)).2 (by rw [store]; exact on)).trans store
    by_cases h : s.jamMid j = true
    · rw [(mid h).1, State.jamStarted, started, if_pos h]
    · have read := State.storeRead_counted (s := (s.jamStarted j between).setTiming (s.jamStarted j between).timing.startLine)
        ⟨j.parity, 1⟩ (by rw [State.setTiming_store, kept]; exact on) (congrArg Engine.lock started) rfl
        (Or.inr (congrArg Engine.missRun started))
      rw [(line h).1, if_neg h, read]
      change (if _ then 0 else 1) = _
      rw [State.storeLookUp_hit, State.storeLookUp_hit, State.setTiming_store, kept]

theorem State.jamTicked_vmatch (mismatch : s.timing.naturalKey ≠ ⟨j.parity, 1⟩) :
    (s.jamTicked j index ref between).engine.vmatch = false := by
  obtain ⟨mid, line⟩ := State.jamTicked_engine (s := s) (j := j) index ref between
  have started : (s.jamStarted j between).engine.vmatch = false := State.completeCheck_vmatch _ _ between mismatch
  by_cases h : s.jamMid j = true
  · rw [(mid h).1, started]
  · rw [(line h).1]
    exact State.storeRead_vmatch (s := (s.jamStarted j between).setTiming (s.jamStarted j between).timing.startLine)
      ⟨j.parity, 1⟩ started

/-- In LOCKED the field start of a check sets vertical match alone. -/
theorem State.jamStarted_locked (locked : s.engine.lock = .locked) : (s.jamStarted j between).engine =
    { s.engine with vmatch := decide (s.timing.naturalKey = ⟨j.parity, 1⟩) } := by
  have engine := (State.jamBegun_same (s := s) (j := j)).2.1
  have other : (s.jamBegun j).engine.lock ≠ .holdover := by rw [engine, locked]; exact nofun
  have stays := State.checked_stays (u := s.jamBegun j) (p := j.parity) (due := s.timing.naturalKey) fun _ acquire => by
    rw [engine, locked] at acquire
    nomatch acquire
  rw [State.jamStarted, (State.completeCheck_engine _ _ between other).1, stays.1, engine]

theorem State.jamStarted_history : (s.jamStarted j between).engine.history = s.engine.history := by
  rw [State.jamStarted, State.completeCheck_history, State.jamBegun_same.2.1]

theorem State.jamStarted_mixer : (s.jamStarted j between).mixer = { s.mixer with
    keyer := (s.jamStarted j between).mixer.keyer, keyerNext := (s.jamStarted j between).mixer.keyerNext
    recorded := (s.jamStarted j between).mixer.recorded } := by
  have frame := (s.jamBegun j).completeCheck_mixer j.parity s.timing.naturalKey between
  rw [State.jamBegun_same.2.2.2.1] at frame
  exact frame

end

/-- At mid-line the check starts no line. -/
theorem State.jamTicked_midLine {s : State} {j : Jam} (index : BitVec 4) (ref : Sample) (between : List Byte)
    (due : s.timing.jamDue = some j) (h : s.jamMid j = true) : let t := s.jamTicked j index ref between
    t.timing.key = s.timing.key ∧ t.timing.newField = true ∧ t.timing.pixel = s.timing.pixel + 1 ∧
    (s.engine.lock = .locked → t.engine = { s.engine with vmatch := decide (s.timing.naturalKey = ⟨j.parity, 1⟩) }) ∧
    (t.mixer.ctx, t.mixer.prevCtx, t.mixer.edits) = (s.mixer.ctx, s.mixer.prevCtx, s.mixer.edits) ∧
    t.engine.history = s.engine.history ∧ (s.lockOk → s.store.slotsOk → t.store = s.store.sampleTick s.stamp ref) := by
  intro t
  obtain ⟨engine, timing, store, -⟩ := (State.jamTicked_engine (s := s) (j := j) index ref between).1 h
  have timed : t.timing = _ := timing.trans (State.jamStarted_timing between)
  have begun := (State.jamBegun_same (s := s) (j := j)).2.2.1
  have mixer : t.mixer = _ := s.carryTick_mixer_frame index ref _
  rw [State.jamEvent_mid between h, State.jamStarted_mixer] at mixer
  refine ⟨?_, ?_, ?_, fun locked => ?_, ?_, ?_, fun ok slots => ?_⟩
  · rw [timed]
    exact State.jamBegun_same.2.2.2.2.2.2.2.2.2
  · rw [timed]
    rfl
  · rw [timed]
    exact (State.jamBegun_pixel due).trans (if_pos h)
  · rw [engine]
    exact State.jamStarted_locked between locked
  · rw [mixer]
  · rw [engine]
    exact State.jamStarted_history between
  · have kept := State.completeCheck_store j.parity s.timing.naturalKey between (State.jamBegun_lockOk (j := j) ok)
    rw [begun] at kept
    rw [store, State.jamStarted]
    by_cases on : s.store.active = true
    · rw [kept.2 on]
    · rw [(kept.1 (by simpa using on)).2.2.2.2 slots]

/-- At a line start the check comes before the line. -/
theorem State.jamTicked_line {s : State} {j : Jam} (index : BitVec 4) (ref : Sample) (between : List Byte)
    (due : s.timing.jamDue = some j) (h : ¬s.jamMid j = true) : let t := s.jamTicked j index ref between
    t.timing.key = ⟨j.parity, 1⟩ ∧ lineBegun s t ∧ lineRead s t ⟨j.parity, 1⟩ ref ∧
    (s.engine.lock = .locked → t.engine.lock = .locked → t.engine = { s.engine with
      vmatch := decide (s.timing.naturalKey = ⟨j.parity, 1⟩), missRun := t.engine.missRun, history := t.engine.history }) := by
  intro t
  obtain ⟨engine, timing, -⟩ := (State.jamTicked_engine (s := s) (j := j) index ref between).2 h
  have made := State.jamEvent_line (s := s) between h
  have clocked := State.jamStarted_clocked (s := s) (j := j) between
  have begun := (State.jamBegun_same (s := s) (j := j)).2.2.1
  refine ⟨?_, ?_, ?_, fun locked stays => ?_⟩
  · rw [show t.timing = _ from timing]
    exact State.jamStarted_key between
  · refine State.carryTick_lineBegun index ref made clocked ?_ (State.jamStarted_history between) ?_
    · rw [State.jamStarted_timing]
      exact (State.jamBegun_pixel due).trans (if_neg h)
    · rw [State.jamStarted_mixer]
  · refine State.carryTick_lineRead index ref made clocked (State.jamStarted_key between) (fun ok off => ?_) fun ok on => ?_
    · have kept := (State.completeCheck_store j.parity s.timing.naturalKey between (State.jamBegun_lockOk (j := j) ok)).1
      rw [begun] at kept
      obtain ⟨off', lineOne, sampling, -, same⟩ := kept off
      exact ⟨off', lineOne, sampling, same⟩
    · have kept := (State.completeCheck_store j.parity s.timing.naturalKey between (State.jamBegun_lockOk (j := j) ok)).2
      rw [begun] at kept
      refine ⟨kept on, fun locked => ?_⟩
      rw [State.jamStarted_locked between locked]
      exact ⟨locked, rfl⟩
  · have read : ((s.jamStarted j between).setTiming (s.jamStarted j between).timing.startLine).engine = _ :=
      State.jamStarted_locked between locked
    rw [engine] at stays
    have runs := State.storeRead_stays ⟨j.parity, 1⟩ stays
    rw [read] at runs
    rw [show t.engine = _ from engine, runs]
    rfl

/-- Settles O44: the check, its field start, and the line start where one falls. -/
theorem jamCheckMatchesOrJams : Obligations.JamCheckMatchesOrJams := by
  refine ⟨fun s index ref between j kind due => ?_, fun std p due low high => ?_⟩
  · have running := State.running_of_tickKind kind nofun nofun
    obtain ⟨jam, restart⟩ := State.jamTicked_jam (s := s) (j := j) index ref between
    refine ⟨s.jamTicked j index ref between, State.exec_jamCheckComplete index ref between kind due,
      State.jamTicked_started index ref between, jam, State.jamTicked_clockKeeps index ref between running,
      fun mid => State.jamTicked_midLine index ref between due (decide_eq_true mid),
      fun line => State.jamTicked_line index ref between due fun mid => line (of_decide_eq_true mid),
      fun matches_ acquire => ?_, fun mismatch => ⟨State.jamTicked_vmatch index ref between mismatch, restart mismatch,
        fun acquire => ?_, fun acquire => ?_⟩⟩
    · obtain ⟨vmatch, lock, engine, posts⟩ := (State.jamTicked_taken index ref between acquire).matched matches_ acquire
      obtain ⟨stays, enters⟩ := State.jamTicked_missRun (j := j) index ref between acquire
      refine ⟨vmatch, lock, fun ok => engine _ ?_, posts⟩
      by_cases full : s.engine.nLock ≤ s.engine.lockRun
      · rw [if_pos full, enters ok matches_ full]
        simp only [State.jamMid, decide_eq_true_eq]
      · rw [if_neg full, stays fun h => full h.2]
    · exact ((State.jamTicked_taken index ref between acquire).jammed mismatch acquire).1
        ((State.jamTicked_missRun (j := j) index ref between acquire).1 fun h => mismatch h.1)
    · exact ((State.jamTicked_taken index ref between acquire).jammed mismatch acquire).2
  · have folded := jamShift_folded std p due
    dsimp only at folded ⊢
    rw [folded, ← lineIndex_eq std low, ← lineIndex_eq std (k := ⟨p, 1⟩) (Nat.le_refl 1)]
    have whole := folded_mod ((lineIndex std ⟨p, 1⟩ : Int) - lineIndex std due) (frameLength std)
    refine ⟨?_, ?_, ?_⟩
    · rw [← whole]
      congr 1
      ring
    · rintro rfl
      exact (folded_range (frame := 625) (by decide) (by decide)).symm
    · rintro rfl
      exact (folded_range (frame := 525) (by decide) (by decide)).symm

end Sys2Proof.Machine

/-! The pixel of a carry (R75, R88 to R97). -/

namespace Sys2Proof.Machine

/-! ## Limiting (R97) -/

theorem clampInt_eq_max_min {a b : Int} (ordered : a ≤ b) (x : Int) : clampInt a b x = max a (min b x) := by
  unfold clampInt
  split
  · omega
  · split <;> omega

/-- A component held to a range of bytes reads as it was held. -/
theorem ofInt_clampInt {a b : Int} (low : 0 ≤ a) (ordered : a ≤ b) (high : b ≤ 255) (x : Int) :
    ((BitVec.ofInt 8 (clampInt a b x)).toNat : Int) = max a (min b x) := by
  have bounds := clampInt_bounds ordered x
  rw [← clampInt_eq_max_min ordered, BitVec.toNat_ofInt]
  omega

/-- The limited sample, and that limiting is seen exactly on a sample out of the legal ranges. -/
theorem limitSample_spec (raw : Int × Int × Int) :
    ((limitSample raw).1.y.toNat : Int) = max 16 (min 235 raw.1) ∧
    ((limitSample raw).1.cb.toNat : Int) = max 16 (min 240 raw.2.1) ∧
    ((limitSample raw).1.cr.toNat : Int) = max 16 (min 240 raw.2.2) ∧
    ((limitSample raw).2 = false ↔
      (16 ≤ raw.1 ∧ raw.1 ≤ 235) ∧ (16 ≤ raw.2.1 ∧ raw.2.1 ≤ 240) ∧ (16 ≤ raw.2.2 ∧ raw.2.2 ≤ 240)) := by
  refine ⟨ofInt_clampInt (by decide) (by decide) (by decide) _, ofInt_clampInt (by decide) (by decide) (by decide) _,
    ofInt_clampInt (by decide) (by decide) (by decide) _, ?_⟩
  unfold limitSample
  simp only [Bool.or_eq_false_iff, decide_eq_false_iff_not, not_not, clampInt_eq_max_min (show (16 : Int) ≤ 235 by decide),
    clampInt_eq_max_min (show (16 : Int) ≤ 240 by decide)]
  omega

/-! ## The output syncs (R91) -/

theorem Mixer.pair_syncs (m : Mixer) (latency : Nat) (index : BitVec 4) :
    (m.pair latency index).1.syncDelay = m.syncDelay ∧ (m.pair latency index).1.output.lineSync = m.output.lineSync ∧
      (m.pair latency index).1.output.fieldSync = m.output.fieldSync := by
  unfold Mixer.pair
  split
  · split
    · dsimp only
      split <;> exact ⟨rfl, rfl, rfl⟩
    · exact ⟨rfl, rfl, rfl⟩
  · exact ⟨rfl, rfl, rfl⟩

/-- With latency syncs delayed, the oldest leaves. -/
theorem Mixer.clock_syncs {m : Mixer} {latency : Nat} {p : Pixel} {index : BitVec 4} {lineSync fieldSync line field : Bool}
    {rest : List (Bool × Bool)} (full : m.syncDelay.length = latency)
    (front : m.syncDelay ++ [(lineSync, fieldSync)] = (line, field) :: rest) :
    let m' := (m.clock latency p index lineSync fieldSync).1
    m'.output.lineSync = line ∧ m'.output.fieldSync = field ∧ m'.syncDelay = rest := by
  have length := congrArg List.length front
  simp only [List.length_append, List.length_cons, List.length_nil] at length
  have delayed : ({ m with pipeline := m.pipeline ++ [p] } : Mixer).delaySyncs latency lineSync fieldSync =
      { m with
        pipeline := m.pipeline ++ [p], syncDelay := rest, output := { m.output with lineSync := line, fieldSync := field } } := by
    unfold Mixer.delaySyncs
    dsimp only
    rw [front, List.length_cons, show rest.length + 1 - 1 - latency = 0 by omega, List.drop_zero]
    exact if_pos (by omega)
  intro m'
  obtain ⟨delay, out, out'⟩ := Mixer.pair_syncs (({ m with pipeline := m.pipeline ++ [p] } : Mixer).delaySyncs latency lineSync
    fieldSync) latency index
  rw [delayed] at delay out out'
  exact ⟨(congrArg (fun x : Mixer => (x.pair latency index).1.output.lineSync) delayed).trans out,
    (congrArg (fun x : Mixer => (x.pair latency index).1.output.fieldSync) delayed).trans out',
    (congrArg (fun x : Mixer => (x.pair latency index).1.syncDelay) delayed).trans delay⟩

/-! ## The pixel in the state after the tick -/

/-- The video of a pixel is that of its tick's sample or that before it (log 12). -/
theorem State.sampleAndRead_video (w : State) (ref : Sample) : (w.sampleAndRead ref).2 = w.store.output w.timing.standard w.timing.lpix w.timing.pixel ∨
    (w.sampleAndRead ref).2 = (w.store.sampleTick w.stamp ref).output w.timing.standard w.timing.lpix w.timing.pixel := by
  unfold State.sampleAndRead
  dsimp only
  split_ifs
  · exact Or.inr rfl
  · exact Or.inr rfl
  · exact Or.inl rfl

section
variable {s v : State} {event : State → State} (index : BitVec 4) (ref : Sample) (made : event s.carried = v)
include made

/-- A limited pixel latches CLIP. -/
theorem State.carryTick_clips (limited : (v.mixer.clock v.timing.latency (v.pixelNow (v.sampleAndRead ref).2) index
    v.timing.lineSync.isSome v.timing.fieldSync.isSome).2 = true) :
    (s.carryTick index ref event).reports.latched.getLsbD 4 = true := by
  change ((((((event s.carried).sampleAndRead ref).1.mixPixel ((event s.carried).sampleAndRead ref).2 index).endTick).settle).reports.latched).getLsbD 4 = true
  rw [made]
  unfold State.mixPixel
  dsimp only
  rw [if_pos (by exact limited), State.settle_latched, BitVec.getLsbD_or]
  change ((((v.sampleAndRead ref).1.setMixer _).latch condClip).reports.latched.getLsbD 4 || _) = true
  rw [show ∀ w : State, (w.latch condClip).reports.latched = w.reports.latched ||| condBit condClip from fun _ => rfl,
    BitVec.getLsbD_or, condBit_getLsbD (by decide)]
  simp [condClip]

/-- A pixel formed at the tick is as the rules of the mix give it. -/
theorem State.carryTick_formed (clocked : Clocked s.carried v) {q : Pixel} {rest : List Pixel}
    (front : v.mixer.pipeline ++ [v.pixelNow (v.sampleAndRead ref).2] = q :: rest) (full : s.timing.latency ≤ rest.length) :
    let t := s.carryTick index ref event
    t.mixer.pipeline = rest ∧ pixelFormed s t q (if q.before = true then t.mixer.prevCtx else t.mixer.ctx) index := by
  intro t
  have mixer : t.mixer = _ := s.carryTick_mixer index ref event
  have frame : t.mixer = _ := s.carryTick_mixer_frame index ref event
  rw [made] at mixer frame
  have latency : v.timing.latency = s.timing.latency := by
    have raster := clocked.raster
    simp only [Prod.mk.injEq] at raster
    exact raster.2.2.2
  have clip : v.mixer.clip = s.mixer.clip := congrArg (·.2) clocked.stage
  have context : v.mixer.contextOf q = if q.before = true then t.mixer.prevCtx else t.mixer.ctx := by
    rw [frame]
    rfl
  obtain ⟨pipeline, pixel, untouched, limited⟩ := Mixer.clock_pairs (m := v.mixer) (latency := v.timing.latency) (index := index)
    (lineSync := v.timing.lineSync.isSome) (fieldSync := v.timing.fieldSync.isSome) front (by rw [latency]; exact full)
  have clips := State.carryTick_clips index ref made
  rw [← mixer, context] at pixel untouched limited
  rw [← mixer] at pipeline
  refine ⟨pipeline, ?_⟩
  generalize (if q.before = true then t.mixer.prevCtx else t.mixer.ctx) = ctx at pixel untouched limited
  unfold Pixel.form at pixel untouched limited
  dsimp only at pixel untouched limited
  unfold Pixel.videoIn at pixel untouched limited
  unfold pixelFormed
  dsimp only
  generalize mixSample (match ctx.source with
    | .store => q.video
    | .matte => ctx.matte) (ctx.table[index.toFin]).colour (q.keyLevel ctx (ctx.table[index.toFin]).cls).1
      (q.keyLevel ctx (ctx.table[index.toFin]).cls).2 = raw at pixel untouched limited ⊢
  obtain ⟨y, cb, cr, legal⟩ := limitSample_spec raw
  rw [pixel]
  refine ⟨y, cb, cr, fun within => ?_, fun beyond => ?_⟩
  · rw [untouched (by rw [legal.mpr within]; rfl), clip]
  · have seen : (limitSample raw).2 = true := by
      by_contra unseen
      exact beyond (legal.mp (by simpa using unseen))
    obtain ⟨record, latched⟩ := limited _ (if_pos seen)
    exact ⟨record, clips latched⟩

/-- A carry's pixel, its index and the syncs, `waiting` being the pixels that wait as its event leaves them. -/
theorem State.carryTick_pixelMade (clocked : Clocked s.carried v) {store : Store} (shows : ∀ std lpix x,
      v.store.output std lpix x = store.output std lpix x ∧
        (v.store.sampleTick s.stamp ref).output std lpix x = (store.sampleTick s.stamp ref).output std lpix x) :
    pixelMade s (s.carryTick index ref event) index ref v.mixer.pipeline store := by
  obtain ⟨-, -, -, -, timing, -, banks, fades, -⟩ := s.carryTick_keeps index ref event
  have mixer := s.carryTick_mixer index ref event
  have frame := s.carryTick_mixer_frame index ref event
  rw [← State.carried, made] at timing banks fades
  rw [made] at mixer frame
  have raster := clocked.raster
  simp only [Prod.mk.injEq] at raster
  obtain ⟨standard, lpix, -, latency⟩ := raster
  have stamp : v.stamp = s.stamp := clocked.stamp
  have stage := clocked.stage
  simp only [Prod.mk.injEq] at stage
  obtain ⟨delay, clip⟩ := stage
  have keyer : (s.carryTick index ref event).mixer.keyer = v.mixer.keyer := by rw [frame]
  have pixel : (⟨(s.carryTick index ref event).timing.key, (s.carryTick index ref event).timing.pixel,
      (s.carryTick index ref event).timing.count, (s.carryTick index ref event).mixer.keyer,
      (s.carryTick index ref event).banks.liveWindows, fadeLevels (s.carryTick index ref event).fades,
      (v.sampleAndRead ref).2, false⟩ : Pixel) = v.pixelNow (v.sampleAndRead ref).2 := by
    rw [timing, banks, fades, keyer]
    rfl
  have formed := fun {q rest} => State.carryTick_formed index ref made clocked (q := q) (rest := rest)
  refine ⟨(v.sampleAndRead ref).2, ?_, ?_⟩
  · have video := v.sampleAndRead_video ref
    rw [stamp, (shows _ _ _).1, (shows _ _ _).2, standard, lpix] at video
    rw [timing]
    exact video
  · dsimp only
    rw [pixel]
    refine ⟨fun short => ?_, fun q rest front full => formed front full, fun immediate empty => ?_, fun line field rest full front => ?_⟩
    · have waits := Mixer.clock_waits (m := v.mixer) (latency := v.timing.latency) (p := v.pixelNow (v.sampleAndRead ref).2)
        (index := index) (lineSync := v.timing.lineSync.isSome) (fieldSync := v.timing.fieldSync.isSome)
        (by rw [latency]; exact short)
      dsimp only at waits
      rw [← mixer] at waits
      exact ⟨waits.1, waits.2.1, waits.2.2.trans clip⟩
    · have alone := formed (q := v.pixelNow (v.sampleAndRead ref).2) (rest := []) (by rw [empty]; rfl)
        (by rw [immediate]; exact Nat.le_refl 0)
      exact alone
    · have syncs := Mixer.clock_syncs (m := v.mixer) (latency := v.timing.latency) (p := v.pixelNow (v.sampleAndRead ref).2)
        (index := index) (lineSync := v.timing.lineSync.isSome) (fieldSync := v.timing.fieldSync.isSome) (line := line)
        (field := field) (rest := rest) (by rw [latency, delay]; exact full) (by rw [delay, ← timing]; exact front)
      dsimp only at syncs
      rw [← mixer] at syncs
      exact syncs

end

end Sys2Proof.Machine

namespace Sys2Proof.Machine

/-! ## The store that the pixels of a line read (R72 to R76) -/

/-- Two stores that give the pixels of a line the same video, before and after the sample of a tick. -/
def Store.showsAs (a b : Store) (reading : Stamp) (ref : Sample) : Prop := ∀ std lpix x,
  a.output std lpix x = b.output std lpix x ∧
    (a.sampleTick reading ref).output std lpix x = (b.sampleTick reading ref).output std lpix x

section
variable {a b : Store} (reading : Stamp) (ref : Sample)

theorem Store.showsAs_refl (a : Store) : a.showsAs a reading ref := fun _ _ _ => ⟨rfl, rfl⟩

/-- The last line-1 result takes no part in the output. -/
theorem Store.showsAs_lineOne (a : Store) (l : Option LineOne) : ({ a with lineOne := l } : Store).showsAs a reading ref := by
  have sampled : ({ a with lineOne := l } : Store).sampleTick reading ref = { a.sampleTick reading ref with lineOne := l } := by
    unfold Store.sampleTick
    dsimp only
    split
    · rfl
    · split
      · rfl
      · split <;> rfl
  refine fun std lpix x => ⟨rfl, ?_⟩
  rw [sampled]
  rfl

/-- Two stores that show nothing and sample nothing are black. -/
theorem Store.showsAs_dark (dark : a.shown = none ∧ a.sampling = none) (dark' : b.shown = none ∧ b.sampling = none) :
    a.showsAs b reading ref := by
  have black : ∀ (c : Store) std lpix x, c.shown = none → c.output std lpix x = Sample.black := fun c std lpix x shown => by
    unfold Store.output
    rw [shown]
  intro std lpix x
  rw [Store.sampleTick_none _ _ _ dark.2, Store.sampleTick_none _ _ _ dark'.2, black a _ _ _ dark.1, black b _ _ _ dark'.1]
  exact ⟨rfl, rfl⟩

end

/-- The store after its read presents the line, the lock half before the line start being that of `s` but for a field counted in
HOLDOVER. -/
theorem State.lineStart_presents {s v : State} (stamp reading : Stamp) (ref : Sample) {k : Key} (key : v.timing.startLine.key = k)
    (ok : s.lockOk)
    (idle : s.store.active = false → v.store.active = false ∧ v.store.shown = none ∧ v.store.sampling = none)
    (active : s.store.active = true → v.store = s.store) :
    (v.lineStart stamp).store.showsAs (s.presents k) reading ref := by
  have read : (v.lineStart stamp).store = ((v.setTiming v.timing.startLine).storeRead k).store := by
    rw [← key]
    rfl
  rw [read]
  unfold State.presents
  by_cases on : s.store.active = true
  · have store := active on
    rw [State.storeRead_store (s := v.setTiming v.timing.startLine) (by rw [State.setTiming_store, store]; exact on),
      State.setTiming_store, store, if_pos on, State.storeLookUp_store]
    exact Store.showsAs_lineOne reading ref { (s.store.read k).1 with hLine := s.store.h } _
  · have off : s.store.active = false := by simpa using on
    obtain ⟨off', shown, sampling⟩ := idle off
    obtain ⟨-, shown', sampling'⟩ := ok.2.1 off
    rw [State.storeRead_idle (s := v.setTiming v.timing.startLine) off', if_neg on]
    exact Store.showsAs_dark reading ref ⟨shown, sampling⟩ ⟨shown', sampling'⟩

/-- A store that a field start leaves alone when active shows what it showed. -/
theorem State.store_showsAs {s v : State} (reading : Stamp) (ref : Sample) (ok : s.lockOk)
    (idle : s.store.active = false → v.store.shown = none ∧ v.store.sampling = none)
    (active : s.store.active = true → v.store = s.store) : v.store.showsAs s.store reading ref := by
  by_cases on : s.store.active = true
  · rw [active on]
    exact Store.showsAs_refl reading ref s.store
  · have off : s.store.active = false := by simpa using on
    obtain ⟨-, shown, sampling⟩ := ok.2.1 off
    exact Store.showsAs_dark reading ref (idle off) ⟨shown, sampling⟩

/-! ## The pixels that wait (R89) -/

theorem State.lineStart_pipeline (v : State) (stamp : Stamp) :
    (v.lineStart stamp).mixer.pipeline = v.mixer.pipeline.map fun q => { q with before := true } := by
  rw [State.lineStart_eq]
  change v.afterRead.mixer.pipeline.map _ = _
  rw [State.afterRead_mixer]

/-! ## The pixel of each carry -/

section
variable {s : State} (index : BitVec 4) (ref : Sample) (between : List Byte)

theorem State.pixelOnly_pixelMade (kind : s.tickKind = .pixel ∨ s.tickKind = .lineSyncRelease) :
    let t := s.carryTick index ref id
    ((t.timing.key, t.timing.pixel, t.timing.count) = (s.timing.key, s.timing.pixel + 1, s.timing.count) ∧
      (t.mixer.keyer, t.mixer.ctx, t.mixer.prevCtx) = (s.mixer.keyer, s.mixer.ctx, s.mixer.prevCtx) ∧
      t.banks = s.banks ∧ t.fades = s.fades) ∧ pixelMade s t index ref s.mixer.pipeline s.store := by
  intro t
  obtain ⟨-, -, -, -, timing, -, banks, fades, -⟩ := s.carryTick_keeps index ref id
  have moved : t.timing = _ := timing.trans s.carried_timing
  rw [(State.tickKind_pixel kind).1] at moved
  have mixer : t.mixer = _ := s.carryTick_mixer_frame index ref id
  refine ⟨⟨?_, ?_, banks, fades⟩, ?_⟩
  · rw [moved]
    rfl
  · rw [mixer]
    rfl
  · exact State.carryTick_pixelMade index ref (v := s.carried) rfl (.refl _) (Store.showsAs_refl s.stamp ref s.store)

theorem State.lineTicked_pixelMade (ok : s.lockOk) (kind : s.tickKind = .lineStart) :
    pixelMade s (s.lineTicked index ref between) index ref (s.mixer.pipeline.map fun q => { q with before := true })
      (s.presents s.timing.naturalKey) := by
  have wrapped := (Keeps.beginLine s.carried).trans (Keeps.naturalField (s.carried.setTiming s.carried.timing.beginLine) between)
  have clocked := s.wrapped_clocked between
  obtain ⟨idle, active, -, -⟩ := State.wrapped_lockHalf (s := s) between
  have key := (State.wrapped_timing between (State.tickKind_lineStart kind).2).2.2.2
  have pipeline : (s.wrapped between).mixer.pipeline = s.mixer.pipeline := by
    cases natural : s.timing.naturalStart with
    | none =>
      rw [s.wrapped_none between natural]
      rfl
    | some p =>
      rw [s.wrapped_some between natural, State.fieldStart_mixer]
      rfl
  have made := State.carryTick_pixelMade index ref (v := (s.wrapped between).lineStart s.lineStamp) (s.wrapEvent_eq between s.lineStamp)
    (clocked.trans (Clocked.lineStart _ _)) (State.lineStart_presents (s := s) s.lineStamp s.stamp ref key ok
      (fun off => ?_) fun on => (active ok on).1)
  · rw [State.lineStart_pipeline, pipeline] at made
    exact made
  · obtain ⟨off', -, sampling, -⟩ := idle ok off
    exact ⟨off', ((wrapped.lock ok).2.1 off').2.1, sampling⟩

theorem State.midTicked_pixelMade (ok : s.lockOk) :
    pixelMade s (s.midTicked index ref between) index ref s.mixer.pipeline s.store := by
  have counted := State.carried_counted (s.carried.fieldStart_counted .two .natural [] between)
  have clocked := Clocked.fieldStart s.carried .two .natural (check := []) nofun between
  have made := State.carryTick_pixelMade index ref (event := fun t => t.fieldStart .two .natural [] between) (s := s) rfl clocked
    (store := s.store) (State.store_showsAs s.stamp ref ok (fun off => ?_) fun on => (counted.store_active ok on).1)
  · rw [State.fieldStart_mixer] at made
    exact made
  · obtain ⟨-, -, sampling, shown, -⟩ := counted.store_idle ok.2.1 off
    exact ⟨shown, sampling⟩

theorem State.restartTicked_pixelMade (ok : s.lockOk) :
    pixelMade s (s.carryTick index ref (State.restartEvent s.lineStamp between)) index ref [] (s.presents ⟨.one, 1⟩) := by
  have clocked := State.restartField_clocked (s := s) between
  have counted := s.restarting.fieldStart_counted .one .restart [] between
  have key := (State.restartField_timing (s := s) between).2.2.2
  have pipeline : (s.restartField between).mixer.pipeline = [] := by
    rw [State.restartField, State.fieldStart_mixer]
    rfl
  have made := State.carryTick_pixelMade index ref (v := (s.restartField between).lineStart s.lineStamp)
    (s.restartEvent_eq s.lineStamp between) (clocked.trans (Clocked.lineStart _ _))
    (State.lineStart_presents (s := s) s.lineStamp s.stamp ref key ok (fun off => ?_)
      fun on => (counted.store_active ok on).1)
  · rw [State.lineStart_pipeline, pipeline] at made
    exact made
  · obtain ⟨off', -, sampling, shown, -⟩ := counted.store_idle ok.2.1 off
    exact ⟨off', shown, sampling⟩

theorem State.jamStarted_store {j : Jam} (ok : s.lockOk) :
    (s.store.active = false → (s.jamStarted j between).store.active = false ∧ (s.jamStarted j between).store.shown = none ∧
      (s.jamStarted j between).store.sampling = none) ∧
    (s.store.active = true → (s.jamStarted j between).store = s.store) := by
  have kept := State.completeCheck_store j.parity s.timing.naturalKey between (State.jamBegun_lockOk (j := j) ok)
  rw [State.jamBegun_same.2.2.1] at kept
  refine ⟨fun off => ?_, kept.2⟩
  obtain ⟨off', -, sampling, shown, -⟩ := kept.1 off
  exact ⟨off', shown, sampling⟩

theorem State.jamTicked_pixelMade {j : Jam} (ok : s.lockOk) :
    (s.jamMid j = true → pixelMade s (s.jamTicked j index ref between) index ref s.mixer.pipeline s.store) ∧
    (¬s.jamMid j = true → pixelMade s (s.jamTicked j index ref between) index ref
      (s.mixer.pipeline.map fun q => { q with before := true }) (s.presents ⟨j.parity, 1⟩)) := by
  have clocked := State.jamStarted_clocked (s := s) (j := j) between
  obtain ⟨idle, active⟩ := State.jamStarted_store (s := s) (j := j) between ok
  have pipeline : (s.jamStarted j between).mixer.pipeline = s.mixer.pipeline := by rw [State.jamStarted_mixer]
  refine ⟨fun mid => ?_, fun line => ?_⟩
  · have made := State.carryTick_pixelMade index ref (State.jamEvent_mid between mid) clocked
      (State.store_showsAs s.stamp ref ok (fun off => (idle off).2) active)
    rw [pipeline] at made
    exact made
  · have made := State.carryTick_pixelMade index ref (State.jamEvent_line between line) (clocked.trans (Clocked.lineStart _ _))
      (State.lineStart_presents (s := s) s.lineStamp s.stamp ref (State.jamStarted_key between) ok
        idle active)
    rw [State.lineStart_pipeline, pipeline] at made
    exact made

end

/-- Settles O41: each carry makes its pixel on the state that its event leaves. -/
theorem pixelIsFormedWithItsIndex : Obligations.PixelIsFormedWithItsIndex := by
  refine fun s index ref between => ⟨fun kind => ?_, fun kind => ?_, fun ok kind => ?_, fun ok kind => ?_,
    fun ok kind j due => ?_, fun ok kind => ?_⟩
  · exact ⟨_, State.onTick_of kind _, State.pixelOnly_pixelMade index ref (Or.inl kind)⟩
  · exact ⟨_, State.onTick_of kind _, State.pixelOnly_pixelMade index ref (Or.inr kind)⟩
  · exact ⟨_, State.onTick_of kind _, State.lineTicked_pixelMade index ref between ok kind⟩
  · exact ⟨_, State.onTick_of kind _, State.midTicked_pixelMade index ref between ok⟩
  · obtain ⟨mid, line⟩ := State.jamTicked_pixelMade (j := j) index ref between ok
    exact ⟨_, State.exec_jamCheckComplete index ref between kind due, fun h => mid (decide_eq_true h),
      fun h => line fun h' => h (of_decide_eq_true h')⟩
  · exact ⟨_, State.onTick_of kind _, State.restartTicked_pixelMade index ref between ok⟩

end Sys2Proof.Machine
